-- ==== Sys2Proof/Word.lean ====
section
/-! DEFINITION. The words of the block: a byte, a request word, and an exact fraction. -/

namespace Sys2Proof

/-- A byte is 8 bits (00_scope.md R8). -/
abbrev Byte := BitVec 8

/-- A request is one 40-bit word `REQ[39:0]` (30_encoding.md R70). -/
abbrev Request := BitVec 40

/-- An exact rational, as the rules write it: a numerator over a denominator.  It carries the architectural
values of the two scaled quantities (10_state.md R26), before any rounding. -/
structure Frac where
  num : Int
  den : Nat
  deriving DecidableEq, Repr

end Sys2Proof
end

