-- ==== Sys2Proof/Syntax.lean ====
section
/-! DEFINITION. The four operations of spec/opcode_table.json and their operands. -/

namespace Sys2Proof

/-- A recognised direction (10_state.md R25). -/
inductive Direction where
  | forward
  | reverse
  deriving DecidableEq, Repr

/-- The four codes of the request word's `dir` field (30_encoding.md R72); the last two are not recognised directions. -/
inductive DirField where
  | forward
  | reverse
  | dir2
  | dir3
  deriving DecidableEq, Repr

/-- The control mode (30_encoding.md R72). -/
inductive Mode where
  | openLoop
  | closedLoop
  deriving DecidableEq, Repr

/-- The form of a `DECODE` result: `condensed` = 0 is `TEL`, `condensed` = 1 is `TXT` (30_encoding.md R73, R77). -/
inductive Form where
  | tel
  | txt
  deriving DecidableEq, Repr

/-- One constructor per row of the opcode table.  `id` and `rpm` are the mathematical integers of 30_encoding.md R75;
reserved bits are no operands (R76). -/
inductive Instr where
  /-- `BIND id` (41_encoder.md R120). -/
  | bind (id : Nat)
  /-- `ENCODE rpm, dir, mode` (41_encoder.md R129). -/
  | encode (rpmOk : Bool) (rpm : Int) (dir : DirField) (mode : Mode)
  /-- `DECODE form` (42_decoder.md R168). -/
  | decode (form : Form)
  /-- `CSUM` (40_checksum.md R112). -/
  | csum
  deriving DecidableEq, Repr

end Sys2Proof
end

