-- ==== Sys2Proof/WellFormed.lean ====
section
/-! DEFINITION. Which operand values a request word can carry. -/

namespace Sys2Proof

/-- `id` is the unsigned 8-bit field (30_encoding.md R71); `rpm` the signed 32-bit field (R72).  The other operands
have only values their fields can hold. -/
def Instr.wf : Instr → Bool
  | .bind id => decide (id ≤ 255)
  | .encode _ rpm _ _ => decide (-2147483648 ≤ rpm) && decide (rpm ≤ 2147483647)
  | .decode _ => true
  | .csum => true

end Sys2Proof
end

