-- ==== Sys2Proof/Decode.lean ====
section
/-! DEFINITION. The request word: decoder and encoder, from the formats of 30_encoding.md R70 to R76. -/

namespace Sys2Proof

/-- `dir = REQ[35:34]` (30_encoding.md R72), more significant bit first. -/
def dirFieldOfBits : Bool → Bool → DirField
  | false, false => .forward
  | false, true => .reverse
  | true, false => .dir2
  | true, true => .dir3

/-- `mode = REQ[36]` (30_encoding.md R72). -/
def modeOfBit : Bool → Mode
  | false => .openLoop
  | true => .closedLoop

/-- `condensed = REQ[0]` (30_encoding.md R73). -/
def formOfBit : Bool → Form
  | false => .tel
  | true => .txt

/-- The two bits of the `dir` field. -/
def bitsOfDirField : DirField → BitVec 2
  | .forward => 0b00#2
  | .reverse => 0b01#2
  | .dir2 => 0b10#2
  | .dir3 => 0b11#2

/-- The bit of the `mode` field, the code the packet's mode byte carries too. -/
def bitOfMode : Mode → BitVec 1
  | .openLoop => 0#1
  | .closedLoop => 1#1

/-- The bit of the `condensed` field. -/
def bitOfForm : Form → BitVec 1
  | .tel => 0#1
  | .txt => 1#1

/-- Decoding a request word.  All four operation codes are defined, so no word is illegal (R70); operand assembly
is R75; reserved bits are not looked at (R76). -/
def decodeRequest (req : Request) : Instr :=
  match req.getLsbD 39, req.getLsbD 38 with
  | false, false => .bind (req.extractLsb' 0 8).toNat
  | false, true =>
    .encode (req.getLsbD 37) (req.extractLsb' 0 32).toInt (dirFieldOfBits (req.getLsbD 35) (req.getLsbD 34))
      (modeOfBit (req.getLsbD 36))
  | true, false => .decode (formOfBit (req.getLsbD 0))
  | true, true => .csum

/-- Why a number is not read as an instruction. -/
inductive DecodeError where
  /-- The number needs more than the 40 bits of a request word (R70: "There is one length"). -/
  | widerThanRequest
  deriving DecidableEq, Repr

/-- Decoding a number: total, with the one way it can fail named (log 17). -/
def decodeNumber (v : Nat) : Except DecodeError Instr :=
  if v < 2 ^ 40 then .ok (decodeRequest (BitVec.ofNat 40 v)) else .error .widerThanRequest

/-- The request word of an instruction, reserved bits 0 (R76, R77). -/
def encodeRequest : Instr → Request
  | .bind id => 0b00#2 ++ 0#30 ++ BitVec.ofNat 8 id
  | .encode rpmOk rpm dir mode =>
    0b01#2 ++ BitVec.ofBool rpmOk ++ bitOfMode mode ++ bitsOfDirField dir ++ 0#2 ++ BitVec.ofInt 32 rpm
  | .decode form => 0b10#2 ++ 0#37 ++ bitOfForm form
  | .csum => 0b11#2 ++ 0#38

/-- The bits of a word that its format does not reserve (30_encoding.md R71 to R74), by operation code. -/
def definedBits (req : Request) : Request :=
  match req.getLsbD 39, req.getLsbD 38 with
  | false, false => 0xC0000000FF#40
  | false, true => 0xFCFFFFFFFF#40
  | true, false => 0xC000000001#40
  | true, true => 0xC000000000#40

/-- The instruction the decoder reads from a row's word: the request word's bits are numbered as the table numbers
them, one 40-bit word, and the bits above `nbits` are 0. -/
def decodeTableWord (nbits w : Nat) : Option Instr :=
  match decodeNumber (w % 2 ^ nbits) with
  | .ok i => some i
  | .error .widerThanRequest => none

end Sys2Proof
end

