-- ==== Sys2Proof/Config.lean ====
section
/-! DEFINITION. The record of parameters the source leaves open (00_scope.md R7), and the values nobody fixes.
The values this spec decides for the parameters are `Sys2Proof.Machine.decidedConfig`. -/

namespace Sys2Proof

/-- How a masked fault bit becomes a boolean (42_decoder.md R164). -/
inductive FaultPolicy where
  /-- The masked value equals the integer 1. -/
  | literal
  /-- The masked value is not zero. -/
  | nonzero
  deriving DecidableEq, Repr

/-- The parameters of 00_scope.md R7 that an effect depends on.  `RPM_W` and `ID_W` are the widths of the request
word's fields (Decode.lean); `LATENCY` has no rule that reads it. -/
structure Config where
  /-- `FAULT_POLICY`. -/
  faultPolicy : FaultPolicy
  /-- `FLAG_SHIFT` as a function of the bound id (92_eei_decisions.md D9 keeps both readings open this way). -/
  flagShift : Nat → Nat
  /-- `ADDR_BYTE(id)`, the value of packet byte 0. -/
  addrByte : Nat → Byte
  /-- `FRAME_MAX`, the capacity of `IBUF` in bytes. -/
  frameMax : Nat
  /-- `SCALED_FMT` of `cur_raw / 59`, a table from the 10-bit raw value (42_decoder.md R162). -/
  cur64 : BitVec 10 → BitVec 64
  /-- `SCALED_FMT` of the temperature, a table from the 10-bit raw value (42_decoder.md R162). -/
  tmp64 : BitVec 10 → BitVec 64
  /-- `round2` at an exact tie: whether the hundredths above `h` are taken (30_encoding.md R103). -/
  tieUp : Int → Bool

/-- DESIGN CHOICE (log 5).  How many bytes `FRAME_MAX` has above 44: open, so no proof can know it. -/
opaque Config.frameSpare : Nat

/-- Free value (log 6).  The byte at an offset of `IBUF` that the host has not written since a reset.
10_state.md R34 says "unspecified: any bytes".  The first argument numbers the reset. -/
opaque Config.ibufUnspecified : Nat → Nat → Byte

end Sys2Proof
end

