-- ==== Sys2Proof/Machine/Binary64.lean ====
section
/-! DEFINITION. IEEE 754 binary64 on finite values, for the ports of the two scaled quantities (42_decoder.md R162).
PRESUMED (log 7): the arithmetic is the spec's general-knowledge statement G2, "the representable value nearest the
exact result, ties to the even significand". -/

namespace Sys2Proof.Machine

/-- `n / d` to the nearest integer, ties to even. -/
def divNearestEven (n d : Nat) : Nat :=
  let q := n / d
  let r := n % d
  if d < 2 * r ∨ (2 * r = d ∧ q % 2 = 1) then q + 1 else q

/-- The exponent `e` with `2 ^ e ≤ n / d < 2 ^ (e + 1)`, for positive `n` and `d`. -/
def floorLog2 (n d : Nat) : Int :=
  let k : Int := (Nat.log2 n : Int) - (Nat.log2 d : Int)
  if d * 2 ^ k.toNat ≤ n * 2 ^ (-k).toNat then k else k - 1

/-- The magnitude bits of the binary64 nearest to `n / d`: exponent field above 52 fraction bits.  A significand that
rounds up to the next power of two carries into the exponent field; what is too large becomes infinity. -/
def roundMagnitude64 (n d : Nat) : Nat :=
  if n = 0 then 0
  else
    let e := max (floorLog2 n d) (-1022)
    let s := 52 - e
    let m := divNearestEven (n * 2 ^ s.toNat) (d * 2 ^ (-s).toNat)
    min ((e + 1022).toNat * 2 ^ 52 + m) (0x7FF * 2 ^ 52)

/-- The binary64 nearest to an exact fraction, ties to the even significand.  An exact zero is `+0`. -/
def roundTo64 (q : Frac) : BitVec 64 :=
  BitVec.ofNat 64 (roundMagnitude64 q.num.natAbs q.den + if q.num < 0 then 2 ^ 63 else 0)

/-- The exact value of a finite binary64. -/
def valueOf64 (b : BitVec 64) : Frac :=
  let e := (b.extractLsb' 52 11).toNat
  let f := (b.extractLsb' 0 52).toNat
  let m := if e = 0 then f else 2 ^ 52 + f
  let x : Int := (if e = 0 then 1 else (e : Int)) - 1075
  let n : Int := m * 2 ^ x.toNat
  ⟨if b.getLsbD 63 then -n else n, 2 ^ (-x).toNat⟩

/-- The binary64 of an integer from 0 to 1023, which is exact (R162: "`f64(n)` is exact"). -/
def f64 (n : BitVec 10) : BitVec 64 := roundTo64 ⟨n.toNat, 1⟩

/-- Division, one rounding.  Used with a divisor that is positive. -/
def fdiv (a b : BitVec 64) : BitVec 64 :=
  let x := valueOf64 a
  let y := valueOf64 b
  roundTo64 ⟨x.num * y.den * y.num.sign, x.den * y.num.natAbs⟩

/-- Multiplication, one rounding. -/
def fmul (a b : BitVec 64) : BitVec 64 :=
  let x := valueOf64 a
  let y := valueOf64 b
  roundTo64 ⟨x.num * y.num, x.den * y.den⟩

/-- Subtraction, one rounding. -/
def fsub (a b : BitVec 64) : BitVec 64 :=
  let x := valueOf64 a
  let y := valueOf64 b
  roundTo64 ⟨x.num * y.den - y.num * x.den, x.den * y.den⟩

/-- `cur64(cur_raw) = fdiv(f64(cur_raw), 59.0)` (R162). -/
def cur64Binary (raw : BitVec 10) : BitVec 64 :=
  fdiv (f64 raw) (roundTo64 ⟨59, 1⟩)

/-- `tmp64(tmp_raw) = fsub(fmul(fdiv(146.9, 200.0), f64(tmp_raw)), 245.8415)`, a literal being the binary64 nearest to
it (R162). -/
def tmp64Binary (raw : BitVec 10) : BitVec 64 :=
  fsub (fmul (fdiv (roundTo64 ⟨1469, 10⟩) (roundTo64 ⟨200, 1⟩)) (f64 raw)) (roundTo64 ⟨2458415, 10000⟩)

end Sys2Proof.Machine
end

