-- ==== Sys2Proof/Machine/Decided.lean ====
section
/-! DEFINITION. The values this spec takes for the parameters of 00_scope.md R7 (log 4). -/

namespace Sys2Proof.Machine

/-- `FRAME_MAX`.  DESIGN CHOICE (log 5): open, but at least 44, which R7 recommends and the vectors assume. -/
def openFrameMax : Nat := Config.frameSpare + 44

/-- "The decided `round2` rounds half to even": at a tie the odd `h` goes up (30_encoding.md R103; log 8). -/
def halfToEven (h : Int) : Bool := decide (h % 2 = 1)

/-- The column "decided value" of 00_scope.md R7. -/
def decidedConfig : Config where
  faultPolicy := .literal
  flagShift := fun _ => 0
  addrByte := fun id => BitVec.ofNat 8 id
  frameMax := openFrameMax
  cur64 := cur64Binary
  tmp64 := tmp64Binary
  tieUp := halfToEven

end Sys2Proof.Machine
end

