-- ==== Sys2Proof/Machine/Constants.lean ====
section
/-! DEFINITION. The constants the source fixes (00_scope.md R6). -/

namespace Sys2Proof.Machine

/-- `ID_MIN`. -/
def idMin : Nat := 1

/-- `ID_MAX`. -/
def idMax : Nat := 7

/-- `RPM_MAX`, the clamp ceiling. -/
def rpmMax : Int := 2200

/-- `RPM_FS`, the demand denominator. -/
def rpmFullScale : Nat := 2800

/-- `DEMAND_SCALE`, the demand multiplier. -/
def demandScale : Nat := 65536

/-- `CSUM_SEED`. -/
def csumSeed : Nat := 165

/-- `CSUM_SPAN`, how many bytes are summed. -/
def csumSpan : Nat := 43

/-- `FRAME_MIN`, the least frame length that decodes. -/
def frameMin : Nat := 20

/-- `CUR_DIV`, the current divisor. -/
def curDiv : Nat := 59

/-- `LEAK_MASK`. -/
def leakMask : Byte := 0x10#8

/-- `SPDERR_MASK`. -/
def speedErrorMask : Byte := 0x08#8

/-- `OVTEMP_MASK`. -/
def overTempMask : Byte := 0x04#8

/-- `OVCUR_MASK`. -/
def overCurrentMask : Byte := 0x02#8

end Sys2Proof.Machine
end

