-- ==== Sys2Proof/Machine/Flags.lean ====
section
/-! DEFINITION. Outcome codes (60_exceptions.md R190) and the four fault booleans (42_decoder.md R164 to R166).
There are no arithmetic condition codes (10_state.md R30). -/

namespace Sys2Proof.Machine

/-- The seven outcomes of an operation (R190); code 7 is never produced and has no name here. -/
inductive Status where
  | ok
  | invalidConfiguration
  | invalidCommand
  | noData
  | notBound
  | alreadyBound
  | badLength
  deriving DecidableEq, Repr

/-- The sub-causes of an outcome (R190); code 3 is never produced and has no name here. -/
inductive Cause where
  | noCause
  | rpm
  | dir
  deriving DecidableEq, Repr

/-- The `STATUS` code of an outcome (R190). -/
def statusCode : Status → BitVec 3
  | .ok => 0#3
  | .invalidConfiguration => 1#3
  | .invalidCommand => 2#3
  | .noData => 3#3
  | .notBound => 4#3
  | .alreadyBound => 5#3
  | .badLength => 6#3

/-- The `CAUSE` code of a sub-cause (R190). -/
def causeCode : Cause → BitVec 2
  | .noCause => 0#2
  | .rpm => 1#2
  | .dir => 2#2

/-- How status byte and mask give a fault boolean, under each policy (42_decoder.md R164). -/
def faultFlag (policy : FaultPolicy) (statusByte mask : Byte) : Bool :=
  match policy with
  | .literal => decide (statusByte &&& mask = 1#8)
  | .nonzero => decide (statusByte &&& mask ≠ 0#8)

end Sys2Proof.Machine
end

