-- ==== Sys2Proof/Machine/State.lean ====
section
/-! DEFINITION. The state of the block (10_state.md R20), the host actions still to be done, the reset state (R34),
and the reasons a step can stop. -/

namespace Sys2Proof.Machine

/-- The `TEL.*` registers (10_state.md R20, R25, R26).  The two scaled values are the bits on their ports. -/
structure TelRegs where
  address : BitVec 5
  speed : BitVec 16
  direction : Direction
  curRaw : BitVec 10
  tmpRaw : BitVec 10
  currentAmps : BitVec 64
  temperatureC : BitVec 64
  leak : Bool
  speedError : Bool
  overTemp : Bool
  overCurrent : Bool
  deriving DecidableEq, Repr

/-- Every `TEL.*` register at all-zero bits (10_state.md R25, R34). -/
def TelRegs.zero : TelRegs where
  address := 0#5
  speed := 0#16
  direction := .forward
  curRaw := 0#10
  tmpRaw := 0#10
  currentAmps := 0#64
  temperatureC := 0#64
  leak := false
  speedError := false
  overTemp := false
  overCurrent := false

/-- The answer to a request: `STATUS` and `CAUSE` (00_scope.md R9, 60_exceptions.md R190). -/
structure Response where
  status : BitVec 3
  cause : BitVec 2
  deriving DecidableEq, Repr

/-- What the host can do to the block (70_reset_and_hazards.md R232).  DESIGN CHOICE (log 1): the actions not yet
done stand in `State.stream`, and one step does one of them. -/
inductive HostAction where
  /-- `rst` (R220; `.reset` of 30_encoding.md R77). -/
  | reset
  /-- Bytes written to `IBUF` from offset 0 and `IBUF_LEN` set to their count (20_memory.md R52; `.ibuf` of R77). -/
  | fill (bytes : List Byte)
  /-- One byte through the write port of `IBUF` (10_state.md R40, `ibuf_we`). -/
  | writeByte (off : Nat) (b : Byte)
  /-- A new value of `IBUF_LEN`, bytes untouched (10_state.md R40, `ibuf_len`; 40_checksum.md R113). -/
  | setLen (n : Nat)
  /-- A request word that is accepted and answered (10_state.md R41). -/
  | request (req : Request)
  /-- A request word that is accepted, and `rst` before its response (R220: "An operation in flight is abandoned"). -/
  | requestThenReset (req : Request)
  deriving DecidableEq, Repr

/-- The bytes of `IBUF` the host has written since a reset: pairs of offset and byte, offsets strictly rising.  An
offset that is not listed has no value of its own (log 6). -/
abbrev Memory := List Host.Cell

/-- The state.  The first group is 10_state.md R20, register by register; the second is the model's own. -/
structure State where
  /-- `BOUND`. -/
  bound : Bool
  /-- `TID`. -/
  tid : BitVec 3
  /-- `PKT[0..43]`. -/
  pkt : Vector Byte 44
  /-- `PKT_VALID`. -/
  pktValid : Bool
  /-- `TEL_VALID`. -/
  telValid : Bool
  /-- `TEL.*`. -/
  tel : TelRegs
  /-- `TXT[0..31]`. -/
  txt : Vector Byte 32
  /-- `TXT_LEN`. -/
  txtLen : BitVec 6
  /-- `CSR`. -/
  csr : Byte
  /-- `CSR_VALID`. -/
  csrValid : Bool
  /-- `STATUS`. -/
  status : BitVec 3
  /-- `CAUSE`. -/
  cause : BitVec 2
  /-- `IBUF`, owned by the host. -/
  ibuf : Memory
  /-- `IBUF_LEN`, owned by the host. -/
  ibufLen : Nat
  /-- The model's own (log 6): which reset the free bytes of `IBUF` belong to. -/
  ibufEpoch : Nat
  /-- The model's own (log 1): the host actions not yet done, oldest first. -/
  stream : List HostAction
  /-- The model's own (log 3): the response the latest step gave, if it answered a request. -/
  rsp : Option Response
  deriving DecidableEq, Repr

/-- The machine right after reset (10_state.md R34).  The last three fields are DESIGN CHOICE (logs 6, 1 and 3). -/
def State.reset : State where
  bound := false
  tid := 0#3
  pkt := Vector.replicate 44 0#8
  pktValid := false
  telValid := false
  tel := TelRegs.zero
  txt := Vector.replicate 32 0#8
  txtLen := 0#6
  csr := 0#8
  csrValid := false
  status := 0#3
  cause := 0#2
  ibuf := []
  ibufLen := 0
  ibufEpoch := 0
  stream := []
  rsp := none

/-- Why the machine stops.  No request stops it (00_scope.md R9); both reasons are for host actions. -/
inductive Fault where
  /-- The host writes an offset at or above `FRAME_MAX`, a byte 20_memory.md R50 says `IBUF` does not have.  Raised by
  `HostAction.writeByte`.  Safe: the machine stops where no rule gives an effect (log 11). -/
  | ibufOffset
  /-- The host sets a length above `FRAME_MAX`, outside 20_memory.md R52's range.  Raised by `HostAction.setLen`.
  Safe: as above (log 11). -/
  | ibufLength
  deriving DecidableEq, Repr

/-- Why an instruction is refused. -/
inductive Refusal where
  /-- An instruction of the opcode table without a meaning in this model.  Raised by no arm of `exec`.  Safe. -/
  | notModelled (mnemonic : String)
  deriving DecidableEq, Repr

end Sys2Proof.Machine
end

