-- ==== Sys2Proof/Machine/Ops.lean ====
section
/-! DEFINITION. The shared operations: the input buffer, reading a byte of a space, writing and clearing each unit's
result registers, answering a request, and raising an outcome (60_exceptions.md R200).  There is no return from an
outcome: "There is no return instruction and nothing to return from" (R202). -/

namespace Sys2Proof.Machine

/-! ## The input buffer -/

/-- The canonical form: offsets strictly rising.  An unlisted offset has no value, so no entry can equal it. -/
abbrev Memory.wf (m : Memory) : Prop := (m.map Prod.fst).Pairwise (· < ·)

/-- The byte written at an offset, if one was. -/
def Memory.get? : Memory → Nat → Option Byte
  | [], _ => none
  | (a, b) :: rest, off => if a = off then some b else Memory.get? rest off

/-- Writing one byte. -/
def Memory.write : Memory → Nat → Byte → Memory
  | [], off, v => [(off, v)]
  | (a, b) :: rest, off, v =>
    if off < a then (off, v) :: (a, b) :: rest
    else if off = a then (off, v) :: rest
    else (a, b) :: Memory.write rest off v

/-- Writing bytes at consecutive offsets, lowest offset first (20_memory.md R52, R53). -/
def Memory.writeList : Memory → Nat → List Byte → Memory
  | m, _, [] => m
  | m, off, v :: rest => Memory.writeList (Memory.write m off v) (off + 1) rest

/-! ## Reading -/

/-- The three byte-addressed spaces (20_memory.md R50). -/
inductive Space where
  | ibuf
  | pkt
  | txt
  deriving DecidableEq, Repr

/-- The byte at an offset of a result buffer; 0x00 where there is none. -/
def bufferByte {n : Nat} (v : Vector Byte n) (off : Nat) : Byte := v[off]?.getD 0#8

/-- One byte of a space.  A byte of `IBUF` the host has not written since the last reset is a free value (log 6).  No
operation reads `PKT` or `TXT`, nor any offset outside its space (20_memory.md R55); 0x00 stands there (log 15). -/
def byteAt (s : State) (sp : Space) (off : Nat) : Byte :=
  match sp with
  | .ibuf => (Memory.get? s.ibuf off).getD (Config.ibufUnspecified s.ibufEpoch off)
  | .pkt => bufferByte s.pkt off
  | .txt => bufferByte s.txt off

/-- `MemRead(buf, off, n)`: the `n` bytes from `off`, lowest offset first (00_scope.md R10). -/
def memRead (s : State) (sp : Space) (off n : Nat) : List Byte :=
  (List.range n).map fun i => byteAt s sp (off + i)

/-! ## Result registers: written on success, cleared on failure (10_state.md R32) -/

/-- A successful `BIND` (41_encoder.md R120). -/
def setBinding (id : Nat) (s : State) : State :=
  { s with bound := true, tid := BitVec.ofNat 3 id }

/-- `MemWrite(PKT, 0, 44, p)` and `PKT_VALID <- 1` (41_encoder.md R129). -/
def writePacket (p : Vector Byte 44) (s : State) : State :=
  { s with pkt := p, pktValid := true }

/-- `PKT[0..43] <- 0x00` and `PKT_VALID <- 0` (60_exceptions.md R200). -/
def clearPacket (s : State) : State :=
  { s with pkt := Vector.replicate 44 0#8, pktValid := false }

/-- The telemetry registers written and the text record cleared (42_decoder.md R168). -/
def writeTelemetry (r : TelRegs) (s : State) : State :=
  { s with tel := r, telValid := true, txt := Vector.replicate 32 0#8, txtLen := 0#6 }

/-- A record at the start of `TXT`, 0x00 behind it (42_decoder.md R168, 10_state.md R27). -/
def padText (record : List Byte) : Vector Byte 32 :=
  Vector.ofFn fun i => record[i.val]?.getD 0#8

/-- The text record written and the telemetry registers cleared (42_decoder.md R168). -/
def writeText (record : List Byte) (s : State) : State :=
  { s with
    txt := padText record
    txtLen := BitVec.ofNat 6 record.length
    tel := TelRegs.zero
    telValid := false }

/-- Both result sets of the decoder cleared (60_exceptions.md R200, 42_decoder.md R170). -/
def clearReply (s : State) : State :=
  { s with tel := TelRegs.zero, telValid := false, txt := Vector.replicate 32 0#8, txtLen := 0#6 }

/-- `CSR <- b` and `CSR_VALID <- 1` (40_checksum.md R112). -/
def writeChecksum (b : Byte) (s : State) : State :=
  { s with csr := b, csrValid := true }

/-- `CSR <- 0x00` and `CSR_VALID <- 0` (60_exceptions.md R200). -/
def clearChecksum (s : State) : State :=
  { s with csr := 0#8, csrValid := false }

/-! ## Answering a request -/

/-- `STATUS, CAUSE <- …`, and the response carries the same two values (10_state.md R29, R41). -/
def respond (st : Status) (c : Cause) (s : State) : State :=
  { s with status := statusCode st, cause := causeCode c, rsp := some ⟨statusCode st, causeCode c⟩ }

/-- The four operations, as owners of result registers (10_state.md R32). -/
inductive Operation where
  | bind
  | encode
  | decode
  | csum
  deriving DecidableEq, Repr

/-- The clearing a failed operation does to its own unit's result registers (60_exceptions.md R200). -/
def clearResults (op : Operation) (s : State) : State :=
  match op with
  | .bind => s
  | .encode => clearPacket s
  | .decode => clearReply s
  | .csum => clearChecksum s

/-- `raise X(c)`: the one effect of every failure (60_exceptions.md R200). -/
def raise (op : Operation) (st : Status) (c : Cause) (s : State) : State :=
  respond st c (clearResults op s)

end Sys2Proof.Machine
end

