-- ==== Sys2Proof/Machine/Operands.lean ====
section
/-! DEFINITION. What each operation takes from its operands: the id check, the direction check, and the bytes of the
input buffer (41_encoder.md R120, R123; 40_checksum.md R112; 42_decoder.md R168). -/

namespace Sys2Proof.Machine

/-- An id an encoder can be bound to (41_encoder.md R120). -/
def validId (id : Nat) : Bool := decide (idMin ≤ id) && decide (id ≤ idMax)

/-- The direction a `dir` field names; `dir[1] = 1` names none (41_encoder.md R123, R129). -/
def recognised : DirField → Option Direction
  | .forward => some .forward
  | .reverse => some .reverse
  | .dir2 => none
  | .dir3 => none

/-- The code of a direction: 0 Forward, 1 Reverse (30_encoding.md R83, R95). -/
def directionCode : Direction → Nat
  | .forward => 0
  | .reverse => 1

/-- The code of a mode: 0 OpenLoop, 1 ClosedLoop (30_encoding.md R85). -/
def modeCode : Mode → Nat
  | .openLoop => 0
  | .closedLoop => 1

/-- The reply frame `IBUF[0 .. IBUF_LEN-1]` (30_encoding.md R90). -/
def replyFrame (s : State) : List Byte := memRead s .ibuf 0 s.ibufLen

/-- The checksum body `IBUF[0..42]` (40_checksum.md R112). -/
def checksumBody (s : State) : List Byte := memRead s .ibuf 0 csumSpan

end Sys2Proof.Machine
end

