-- ==== Sys2Proof/Machine/Render.lean ====
section
/-! DEFINITION. The decoded telemetry and its condensed text record (30_encoding.md R100 to R104).
PRESUMED (log 9): the code points are ASCII, the spec's general-knowledge statement G3. -/

namespace Sys2Proof.Machine

/-- A decoded reply (42_decoder.md R167): the two scaled values are exact rationals (10_state.md R26). -/
structure Telemetry where
  address : BitVec 5
  speed : BitVec 16
  direction : Direction
  curRaw : BitVec 10
  currentAmps : Frac
  tmpRaw : BitVec 10
  temperatureC : Frac
  leak : Bool
  speedError : Bool
  overTemp : Bool
  overCurrent : Bool
  deriving DecidableEq, Repr

/-- An ASCII digit, 0x30 to 0x39 (R101). -/
def digit (n : Nat) : Byte := BitVec.ofNat 8 (0x30 + n % 10)

/-- The numeral of `n` with at most `fuel` digits, most significant first. -/
def decFuel : Nat → Nat → List Byte
  | 0, _ => []
  | fuel + 1, n => if n < 10 then [digit n] else decFuel fuel (n / 10) ++ [digit n]

/-- `dec(n)`: the decimal numeral without leading zeros (R101).  `n` has at most `n + 1` digits. -/
def dec (n : Nat) : List Byte := decFuel (n + 1) n

/-- `,` (R100). -/
def comma : Byte := 0x2C#8

/-- `-` (R100). -/
def minus : Byte := 0x2D#8

/-- `.` (R100). -/
def fullStop : Byte := 0x2E#8

/-- `round2(q)`: the hundredths of `q`, a tie settled by the configuration (R103). -/
def round2 (cfg : Config) (q : Frac) : Int :=
  let h := 100 * q.num / (q.den : Int)
  let r := 100 * q.num % (q.den : Int)
  if (q.den : Int) < 2 * r then h + 1
  else if 2 * r = (q.den : Int) ∧ cfg.tieUp h = true then h + 1
  else h

/-- The text of a number of hundredths (R103). -/
def hundredths (h : Int) : List Byte :=
  (if h < 0 then [minus] else []) ++ dec (h.natAbs / 100) ++ [fullStop] ++
    [digit (h.natAbs % 100 / 10), digit (h.natAbs % 10)]

/-- `fix2(q)` (R103). -/
def fix2 (cfg : Config) (q : Frac) : List Byte := hundredths (round2 cfg q)

/-- A boolean as "0" or "1" (R102). -/
def decBool (b : Bool) : List Byte := dec b.toNat

/-- `render(t)`: nine fields joined by eight commas (R100). -/
def render (cfg : Config) (t : Telemetry) : List Byte :=
  dec t.address.toNat ++ [comma] ++ dec t.speed.toNat ++ [comma] ++ dec (directionCode t.direction) ++ [comma] ++
    fix2 cfg t.currentAmps ++ [comma] ++ fix2 cfg t.temperatureC ++ [comma] ++
    decBool t.leak ++ [comma] ++ decBool t.speedError ++ [comma] ++ decBool t.overTemp ++ [comma] ++
    decBool t.overCurrent

end Sys2Proof.Machine
end

