-- ==== Sys2Proof/Machine/Decoder.lean ====
section
/-! DEFINITION. The reply_decoder unit: `DECODE` and the pure functions beneath (42_decoder.md). -/

namespace Sys2Proof.Machine

/-- `frame[i]`. -/
def frameByte (frame : List Byte) (i : Nat) : Byte := frame[i]?.getD 0#8

/-- `address = frame[0] & 0x1F` (R151). -/
def replyAddress (frame : List Byte) : BitVec 5 := (frameByte frame 0).extractLsb' 0 5

/-- `speed = {frame[2], frame[1]}` (R152). -/
def replySpeed (frame : List Byte) : BitVec 16 := frameByte frame 2 ++ frameByte frame 1

/-- `direction = frame[18] & 0x01` (R153). -/
def replyDirection (statusByte : Byte) : Direction := if statusByte.getLsbD 0 then .reverse else .forward

/-- `cur_raw = {frame[4], frame[3]} & 0x3FF` (R154). -/
def replyCurRaw (frame : List Byte) : BitVec 10 := (frameByte frame 4 ++ frameByte frame 3).extractLsb' 0 10

/-- `tmp_raw = {frame[6], frame[5]} & 0x3FF` (R160). -/
def replyTmpRaw (frame : List Byte) : BitVec 10 := (frameByte frame 6 ++ frameByte frame 5).extractLsb' 0 10

/-- `currentAmps = cur_raw / 59`, exact (R158). -/
def amps (raw : BitVec 10) : Frac := ⟨raw.toNat, curDiv⟩

/-- `temperatureC = (7345 * tmp_raw - 2458415) / 10000`, exact (R161). -/
def celsius (raw : BitVec 10) : Frac := ⟨7345 * raw.toNat - 2458415, 10000⟩

/-- `decode_fields(cfg, frame)`; `none` is `NoData` (R150, R167). -/
def decodeFields (cfg : Config) (frame : List Byte) : Option Telemetry :=
  if frame.length < frameMin then none
  else
    let st := frameByte frame 18
    some {
      address := replyAddress frame
      speed := replySpeed frame
      direction := replyDirection st
      curRaw := replyCurRaw frame
      currentAmps := amps (replyCurRaw frame)
      tmpRaw := replyTmpRaw frame
      temperatureC := celsius (replyTmpRaw frame)
      leak := faultFlag cfg.faultPolicy st leakMask
      speedError := faultFlag cfg.faultPolicy st speedErrorMask
      overTemp := faultFlag cfg.faultPolicy st overTempMask
      overCurrent := faultFlag cfg.faultPolicy st overCurrentMask }

/-- The telemetry as the `TEL.*` registers hold it: the scaled values in the port format (R162, R168). -/
def telRegsOf (cfg : Config) (t : Telemetry) : TelRegs where
  address := t.address
  speed := t.speed
  direction := t.direction
  curRaw := t.curRaw
  tmpRaw := t.tmpRaw
  currentAmps := cfg.cur64 t.curRaw
  temperatureC := cfg.tmp64 t.tmpRaw
  leak := t.leak
  speedError := t.speedError
  overTemp := t.overTemp
  overCurrent := t.overCurrent

/-- `DECODE` under a configuration (R168 to R170). -/
def decodeWith (cfg : Config) (form : Form) (s : State) : State :=
  match decodeFields cfg (replyFrame s) with
  | none => raise .decode .noData .noCause s
  | some t =>
    match form with
    | .tel => respond .ok .noCause (writeTelemetry (telRegsOf cfg t) s)
    | .txt => respond .ok .noCause (writeText (render cfg t) s)

/-- `DECODE form` (42_decoder.md R168). -/
def execDecode (form : Form) (s : State) : Host.Outcome State Fault Refusal :=
  .next (decodeWith decidedConfig form s)

end Sys2Proof.Machine
end

