-- ==== Sys2Proof/Machine/Checksum.lean ====
section
/-! DEFINITION. checksum_engine: the checksum function and `CSUM` (40_checksum.md). -/

namespace Sys2Proof.Machine

/-- The sum of unsigned byte values. -/
def byteSum : List Byte → Nat
  | [] => 0
  | b :: rest => b.toNat + byteSum rest

/-- `csum`: seed plus the bytes, the low 8 bits kept (40_checksum.md R110). -/
def csum (body : List Byte) : Byte := BitVec.ofNat 8 (csumSeed + byteSum body)

/-- `CSUM` (40_checksum.md R112, R113). -/
def execCsum (s : State) : Host.Outcome State Fault Refusal :=
  if s.ibufLen ≠ csumSpan then .next (raise .csum .badLength .noCause s)
  else .next (respond .ok .noCause (writeChecksum (csum (checksumBody s)) s))

end Sys2Proof.Machine
end

