-- ==== Sys2Proof/Machine/Encoder.lean ====
section
/-! DEFINITION. The packet_encoder unit: `BIND`, `ENCODE` and the pure functions beneath (41_encoder.md). -/

namespace Sys2Proof.Machine

/-- `BIND id` (41_encoder.md R120; priority 60_exceptions.md R195). -/
def execBind (id : Nat) (s : State) : Host.Outcome State Fault Refusal :=
  if s.bound then .next (raise .bind .alreadyBound .noCause s)
  else if !validId id then .next (raise .bind .invalidConfiguration .noCause s)
  else .next (respond .ok .noCause (setBinding id s))

/-- `clamp` to 0..2200, silently (R124). -/
def clamp (rpm : Int) : Nat :=
  if rpm ≤ 0 then 0 else if rpmMax < rpm then rpmMax.toNat else rpm.toNat

/-- `demand(c) = floor(c * 65536 / 2800)` (R125). -/
def demand (c : Nat) : Nat := c * demandScale / rpmFullScale

/-- `p[i] <- b`. -/
def setByte (p : Vector Byte 44) (i : Nat) (b : Byte) : Vector Byte 44 := p.setIfInBounds i b

/-- The checksum put at offset 43, over offsets 0 to 42 (R127; 30_encoding.md R88). -/
def sealPacket (p : Vector Byte 44) : Vector Byte 44 := setByte p 43 (csum (p.toList.take csumSpan))

/-- The packet before its checksum, in the order of R127's assignments (layout 30_encoding.md R80 to R87).  `t` is 1 to 7
in every reachable state; the formula is evaluated on any other `t` too (log 10). -/
def packetBody (cfg : Config) (t c : Nat) (d : Direction) (m : Mode) : Vector Byte 44 :=
  let shift := cfg.flagShift t
  let p0 := Vector.replicate 44 0#8
  let p1 := setByte p0 0 (cfg.addrByte t)
  let p2 := setByte p1 (2 * t - 1) (BitVec.ofNat 8 (demand c % 256))
  let p3 := setByte p2 (2 * t) (BitVec.ofNat 8 (demand c / 256))
  let p4 := setByte p3 33 (BitVec.ofNat 8 (directionCode d <<< shift))
  let p5 := setByte p4 35 (BitVec.ofNat 8 (modeCode m <<< shift))
  setByte p5 37 (BitVec.ofNat 8 (1 <<< shift))

/-- `assemble(t, c, d, m)` (R127). -/
def assemble (cfg : Config) (t c : Nat) (d : Direction) (m : Mode) : Vector Byte 44 :=
  sealPacket (packetBody cfg t c d m)

/-- `encode_packet(t, rpm, d, m)` (R128). -/
def encodePacket (cfg : Config) (t : Nat) (rpm : Int) (d : Direction) (m : Mode) : Vector Byte 44 :=
  assemble cfg t (clamp rpm) d m

/-- `ENCODE` under a configuration: validation in the order of R123, then the packet (R129, R130). -/
def encodeWith (cfg : Config) (rpmOk : Bool) (rpm : Int) (dir : DirField) (mode : Mode) (s : State) : State :=
  if !s.bound then raise .encode .notBound .noCause s
  else if !rpmOk then raise .encode .invalidCommand .rpm s
  else
    match recognised dir with
    | none => raise .encode .invalidCommand .dir s
    | some d => respond .ok .noCause (writePacket (encodePacket cfg s.tid.toNat rpm d mode) s)

/-- `ENCODE rpm, dir, mode` (41_encoder.md R129). -/
def execEncode (rpmOk : Bool) (rpm : Int) (dir : DirField) (mode : Mode) (s : State) :
    Host.Outcome State Fault Refusal :=
  .next (encodeWith decidedConfig rpmOk rpm dir mode s)

end Sys2Proof.Machine
end

