-- ==== Sys2Proof/Machine/Dispatch.lean ====
section
/-! DEFINITION. One arm per operation: the meaning of each (00_scope.md R9). -/

namespace Sys2Proof.Machine

def exec (i : Instr) (s : State) : Host.Outcome State Fault Refusal :=
  match i with
  | .bind id => Sys2Proof.Machine.execBind id s
  | .encode rpmOk rpm dir mode => Sys2Proof.Machine.execEncode rpmOk rpm dir mode s
  | .decode form => Sys2Proof.Machine.execDecode form s
  | .csum => Sys2Proof.Machine.execCsum s

end Sys2Proof.Machine
end

