-- ==== Sys2Proof/Machine/HostPort.lean ====
section
/-! DEFINITION. What the host's actions other than an answered request do to the state (20_memory.md R52,
70_reset_and_hazards.md R220, R232).  None of them is answered: the block "returns nothing" (R232). -/

namespace Sys2Proof.Machine

/-- The oldest host action not yet done, and the state without it. -/
def nextAction (s : State) : Option (HostAction × State) :=
  match s.stream with
  | [] => none
  | a :: rest => some (a, { s with stream := rest })

/-- No request was answered in this step. -/
def silent (s : State) : State := { s with rsp := none }

/-- The reset event (70_reset_and_hazards.md R220): every register takes its value of 10_state.md R34.  The bytes of
`IBUF` become unspecified anew (log 6); the host's further actions stay the host's. -/
def applyReset (s : State) : State :=
  { State.reset with ibufEpoch := s.ibufEpoch + 1, stream := s.stream }

/-- `.ibuf`: bytes from offset 0 and `IBUF_LEN` (20_memory.md R52).  Of a longer buffer "the host presents its first
`FRAME_MAX` bytes". -/
def fillInput (cfg : Config) (bytes : List Byte) (s : State) : State :=
  { s with
    ibuf := Memory.writeList s.ibuf 0 (bytes.take cfg.frameMax)
    ibufLen := (bytes.take cfg.frameMax).length }

/-- One byte of `IBUF` (10_state.md R40). -/
def putByte (off : Nat) (b : Byte) (s : State) : State :=
  { s with ibuf := Memory.write s.ibuf off b }

/-- `IBUF_LEN` (10_state.md R40). -/
def setLength (n : Nat) (s : State) : State := { s with ibufLen := n }

/-- `.ibuf` as a step. -/
def hostFill (cfg : Config) (bytes : List Byte) (s : State) : Host.Outcome State Fault Refusal :=
  .next (silent (fillInput cfg bytes s))

/-- A byte write as a step; offsets from `FRAME_MAX` on do not exist (20_memory.md R50; log 11). -/
def hostWriteByte (cfg : Config) (off : Nat) (b : Byte) (s : State) : Host.Outcome State Fault Refusal :=
  if off < cfg.frameMax then .next (silent (putByte off b s)) else .fault .ibufOffset

/-- A length change as a step; the range is 0 to `FRAME_MAX` (20_memory.md R52; log 11). -/
def hostSetLen (cfg : Config) (n : Nat) (s : State) : Host.Outcome State Fault Refusal :=
  if n ≤ cfg.frameMax then .next (silent (setLength n s)) else .fault .ibufLength

/-- A request put before the host's other actions. -/
def offerFirst (req : Request) (s : State) : State := { s with stream := .request req :: s.stream }

end Sys2Proof.Machine
end

