-- ==== Sys2Proof/Machine/Step.lean ====
section
/-! DEFINITION. One step: the oldest host action is done.  With none the block waits: "it does nothing on its own"
(70_reset_and_hazards.md R222). -/

namespace Sys2Proof.Machine

/-- One transaction (00_scope.md R5, R9; log 2). -/
def step (s : State) : Host.Outcome State Fault Refusal :=
  match nextAction s with
  | none => .next (silent s)
  | some (.request req, s') => exec (decodeRequest req) s'
  | some (.requestThenReset _, s') => .next (applyReset s')
  | some (.reset, s') => .next (applyReset s')
  | some (.fill bytes, s') => hostFill decidedConfig bytes s'
  | some (.writeByte off b, s') => hostWriteByte decidedConfig off b s'
  | some (.setLen n, s') => hostSetLen decidedConfig n s'

/-- `s` with the request word `w` offered first, so that the next step runs it (log 1). -/
def State.withFetchWord (s : State) (nbits w : Nat) : State :=
  offerFirst (BitVec.ofNat 40 (w % 2 ^ nbits)) s

end Sys2Proof.Machine
end

