-- ==== Sys2Proof/Machine/Assembler.lean ====
section
/-! DEFINITION. The assembler notation of 30_encoding.md R77: one host action a line.  A line is held as its parts, not
as text (log 16); the words FWD, REV, DIR2, DIR3, OL, CL, TEL, TXT are the constructors of `DirField`, `Mode` and `Form`. -/

namespace Sys2Proof.Machine

/-- One line of a program (R77).  The `rpm` of an `ENCODE` line is a number, or `none` for `NAN`. -/
inductive AsmLine where
  | bind (id : Nat)
  | encode (rpm : Option Int) (dir : DirField) (mode : Mode)
  | decode (form : Form)
  | csum
  | ibuf (bytes : List Byte)
  | reset
  deriving DecidableEq, Repr

/-- The instruction of a line, if it is one.  "A numeric `rpm` implies `rpm_ok` = 1"; `NAN` is `rpm_ok` = 0 with the
`rpm` field 0 (R77). -/
def lineInstr : AsmLine → Option Instr
  | .bind id => some (.bind id)
  | .encode (some rpm) dir mode => some (.encode true rpm dir mode)
  | .encode none dir mode => some (.encode false 0 dir mode)
  | .decode form => some (.decode form)
  | .csum => some .csum
  | .ibuf _ => none
  | .reset => none

/-- The host action of a line.  "Reserved bits assemble as 0" (R77). -/
def lineAction : AsmLine → HostAction
  | .bind id => .request (encodeRequest (.bind id))
  | .encode (some rpm) dir mode => .request (encodeRequest (.encode true rpm dir mode))
  | .encode none dir mode => .request (encodeRequest (.encode false 0 dir mode))
  | .decode form => .request (encodeRequest (.decode form))
  | .csum => .request (encodeRequest .csum)
  | .ibuf bytes => .fill bytes
  | .reset => .reset

/-- A program is a finite list of host actions (10_state.md R22). -/
def program (lines : List AsmLine) : List HostAction := lines.map lineAction

end Sys2Proof.Machine
end

