-- ==== Sys2Proof/Safety.lean ====
section
/-! DEFINITION. The notions claims are stated in: what a valid packet is, the invariants of 10_state.md R31 and the
register rules beside it, and the exact values and text the rules speak of. -/

namespace Sys2Proof.Safety

open Sys2Proof.Machine

/-! ## Packets -/

/-- Byte 43 is the checksum of bytes 0 to 42 (40_checksum.md R115). -/
def ChecksumValid (p : Vector Byte 44) : Prop := bufferByte p 43 = csum (p.toList.take 43)

/-- The offset map of 30_encoding.md R80 for the bound id `t`, demand `D`, direction code `d` and mode code `m`, with
`FLAG_SHIFT` = 0, all but the checksum. -/
def PacketShape (t D d m : Nat) (p : Vector Byte 44) : Prop :=
  (bufferByte p 0).toNat = t ∧
  (bufferByte p (2 * t - 1)).toNat = D % 256 ∧
  (bufferByte p (2 * t)).toNat = D / 256 ∧
  (∀ i, 1 ≤ i → i ≤ 32 → i ≠ 2 * t - 1 → i ≠ 2 * t → bufferByte p i = 0#8) ∧
  (bufferByte p 33).toNat = d ∧
  (bufferByte p 35).toNat = m ∧
  (bufferByte p 37).toNat = 1 ∧
  (∀ i, i = 34 ∨ i = 36 ∨ (38 ≤ i ∧ i ≤ 42) → bufferByte p i = 0#8)

/-- 44 bytes of 0x00 (10_state.md R24). -/
def zeroPacket : Vector Byte 44 := Vector.replicate 44 0#8

/-! ## Invariants -/

/-- 10_state.md R31 (i) to (iv).  In (iii) the shape is R80's, at some demand a clamped rpm gives. -/
structure EncoderInv (s : State) : Prop where
  unbound : s.bound = false → s.tid = 0#3 ∧ s.pktValid = false
  bound : s.bound = true → 1 ≤ s.tid.toNat ∧ s.tid.toNat ≤ 7
  packet : s.pktValid = true →
    s.bound = true ∧ ChecksumValid s.pkt ∧
      ∃ c d m, c ≤ 2200 ∧ d ≤ 1 ∧ m ≤ 1 ∧ PacketShape s.tid.toNat (c * 65536 / 2800) d m s.pkt
  cleared : s.pktValid = false → s.pkt = zeroPacket

/-- 10_state.md R31 (v), and R25 and R27 on cleared registers. -/
structure DecoderInv (s : State) : Prop where
  telemetry : s.telValid = true → s.txtLen = 0#6
  record : 0 < s.txtLen.toNat → s.telValid = false ∧ 23 ≤ s.txtLen.toNat ∧ s.txtLen.toNat ≤ 32
  clearedTelemetry : s.telValid = false → s.tel = TelRegs.zero
  padding : ∀ i, s.txtLen.toNat ≤ i → i < 32 → bufferByte s.txt i = 0#8

/-- 10_state.md R28 on `CSR`, and 60_exceptions.md R190 on the codes that are never produced. -/
structure OutcomeInv (s : State) : Prop where
  checksum : s.csrValid = false → s.csr = 0#8
  status : s.status ≠ 7#3
  cause : s.cause ≠ 3#2
  subCause : s.cause ≠ 0#2 → s.status = 2#3

/-- 20_memory.md R50, R52: `IBUF` in its canonical form, its bytes and its length within `FRAME_MAX`. -/
structure InputInv (s : State) : Prop where
  canonical : Memory.wf s.ibuf
  offsets : ∀ c ∈ s.ibuf, c.1 < decidedConfig.frameMax
  length : s.ibufLen ≤ decidedConfig.frameMax

/-- Which operation an instruction is (30_encoding.md R70). -/
def operationOf : Instr → Operation
  | .bind _ => .bind
  | .encode _ _ _ _ => .encode
  | .decode _ => .decode
  | .csum => .csum

/-- The action of the next step is a reset (70_reset_and_hazards.md R220). -/
def NextIsReset (s : State) : Prop :=
  ∃ rest, s.stream = .reset :: rest ∨ ∃ req, s.stream = .requestThenReset req :: rest

/-! ## Exact values and text -/

/-- The rational a fraction stands for. -/
def fracValue (q : Frac) : ℚ := (q.num : ℚ) / (q.den : ℚ)

/-- The number a decimal numeral in ASCII stands for (30_encoding.md R101). -/
def numeralValue (text : List Byte) : Nat := text.foldl (fun v b => 10 * v + (b.toNat - 0x30)) 0

/-- An ASCII digit (30_encoding.md R101). -/
def IsDigit (b : Byte) : Prop := 0x30 ≤ b.toNat ∧ b.toNat ≤ 0x39

/-- The 8-bit accumulator of 40_checksum.md R111. -/
def accumulate (body : List Byte) : Byte := body.foldl (fun acc b => acc + b) 0xA5#8

/-- The interpreted bits of a reply frame, and nothing else (30_encoding.md R90). -/
def SameInterpretedBits (s t : State) : Prop :=
  byteAt s .ibuf 0 &&& 0x1F#8 = byteAt t .ibuf 0 &&& 0x1F#8 ∧
  byteAt s .ibuf 1 = byteAt t .ibuf 1 ∧
  byteAt s .ibuf 2 = byteAt t .ibuf 2 ∧
  byteAt s .ibuf 3 = byteAt t .ibuf 3 ∧
  byteAt s .ibuf 4 &&& 0x03#8 = byteAt t .ibuf 4 &&& 0x03#8 ∧
  byteAt s .ibuf 5 = byteAt t .ibuf 5 ∧
  byteAt s .ibuf 6 &&& 0x03#8 = byteAt t .ibuf 6 &&& 0x03#8 ∧
  byteAt s .ibuf 18 &&& 0x1F#8 = byteAt t .ibuf 18 &&& 0x1F#8

/-- Two states with the same decoder results (10_state.md R32). -/
def SameReplyResults (s t : State) : Prop :=
  s.tel = t.tel ∧ s.telValid = t.telValid ∧ s.txt = t.txt ∧ s.txtLen = t.txtLen

end Sys2Proof.Safety
end

