-- ==== Sys2Proof/Certificates/Slice0/Obligations.lean ====
section
/-! DEFINITION. The statements for the provers.  Each docstring names the sentence of spec/ it formalises.  All of them
are about the parameter values this spec decides (`decidedConfig`) unless a configuration is quantified; claims about
packet bytes 33, 35, 37 and the checksum are for `FLAG_SHIFT` = 0, as 92_eei_decisions.md D9 asks them to say. -/

open Sys2Proof Sys2Proof.Machine Sys2Proof.Safety

/-! ## The request word -/

/-- Decoding the encoded word of a well-formed instruction gives it back, every operand at every value
(30_encoding.md R71 to R75). -/
def Obligations.DecodeOfEncodeIsIdentity : Prop :=
  ∀ i : Instr, i.wf = true → decodeRequest (encodeRequest i) = i

/-- Encoding what was decoded gives the word back with its reserved bits 0, and what was decoded is well-formed. -/
def Obligations.EncodeOfDecodeClearsReservedBits : Prop :=
  ∀ w : Request, encodeRequest (decodeRequest w) = w &&& definedBits w ∧ (decodeRequest w).wf = true

/-- 30_encoding.md R76: "two words that differ only in reserved bits are the same request". -/
def Obligations.ReservedBitsAreIgnored : Prop :=
  ∀ w w' : Request, w &&& definedBits w = w' &&& definedBits w → decodeRequest w = decodeRequest w'

/-- 30_encoding.md R70: `REQ[39:38]` selects the operation, and all four values are defined. -/
def Obligations.OperationCodeSelectsOperation : Prop :=
  ∀ w : Request,
    (w.toNat / 2 ^ 38 = 0 → ∃ id, decodeRequest w = .bind id) ∧
    (w.toNat / 2 ^ 38 = 1 → ∃ ok rpm dir mode, decodeRequest w = .encode ok rpm dir mode) ∧
    (w.toNat / 2 ^ 38 = 2 → ∃ form, decodeRequest w = .decode form) ∧
    (w.toNat / 2 ^ 38 = 3 → decodeRequest w = .csum) ∧
    w.toNat / 2 ^ 38 < 4

/-- 30_encoding.md R75: the operands as numbers made from the word.  `rpm` is the two's-complement reading of bits
31:0; `dir`, `mode`, `rpm_ok` and `condensed` are unsigned codes. -/
def Obligations.OperandsAreAssembledFromTheWord : Prop :=
  ∀ w : Request,
    (∀ id, decodeRequest w = .bind id → id = w.toNat % 256) ∧
    (∀ ok rpm dir mode, decodeRequest w = .encode ok rpm dir mode →
      rpm = (if w.toNat % 2 ^ 32 < 2 ^ 31 then (w.toNat % 2 ^ 32 : Int) else (w.toNat % 2 ^ 32 : Int) - 2 ^ 32) ∧
      (bitsOfDirField dir).toNat = w.toNat / 2 ^ 34 % 4 ∧
      (bitOfMode mode).toNat = w.toNat / 2 ^ 36 % 2 ∧
      ok.toNat = w.toNat / 2 ^ 37 % 2) ∧
    (∀ form, decodeRequest w = .decode form → (bitOfForm form).toNat = w.toNat % 2)

/-- Words of 95_test_vectors.md section 2.7 and the instructions they stand for. -/
def Obligations.ListedWordsDecodeAsListed : Prop :=
  decodeRequest 0x00000000FF#40 = .bind 255 ∧
  decodeRequest 0x74000005DC#40 = .encode true 1500 .reverse .closedLoop ∧
  decodeRequest 0x60FFFFFFFB#40 = .encode true (-5) .forward .openLoop ∧
  decodeRequest 0x5C00000000#40 = .encode false 0 .dir3 .closedLoop ∧
  decodeRequest 0x8000000001#40 = .decode .txt ∧
  decodeRequest 0xC000000000#40 = .csum

/-- 30_encoding.md R77: a line that is an instruction assembles to one request word, which decodes to that
instruction and has its reserved bits 0. -/
def Obligations.AssembledLinesDecodeToTheirInstruction : Prop :=
  ∀ line i, lineInstr line = some i → i.wf = true →
    ∃ w, lineAction line = .request w ∧ decodeRequest w = i ∧ w &&& definedBits w = w

/-! ## Steps and host actions -/

/-- A step whose next host action is a request runs the decoded instruction, on the state without that action. -/
def Obligations.StepRunsTheDecodedRequest : Prop :=
  ∀ (s : State) (w : Request) (rest : List HostAction), s.stream = .request w :: rest →
    step s = exec (decodeRequest w) { s with stream := rest }

/-- A 40-bit word offered first is the very next instruction run, the host's other actions still waiting (log 1). -/
def Obligations.OfferedWordRunsNext : Prop :=
  ∀ (s : State) (w : Nat), w < 2 ^ 40 →
    step (s.withFetchWord 40 w) = exec (decodeRequest (BitVec.ofNat 40 w)) s

/-- 00_scope.md R9: "every request word in every state has exactly one next state and one response"; the response
carries `STATUS` and `CAUSE` (10_state.md R29).  The field that holds it is the model's (log 3). -/
def Obligations.EveryRequestIsAnswered : Prop :=
  ∀ (i : Instr) (s : State), ∃ t, exec i s = .next t ∧ t.rsp = some ⟨t.status, t.cause⟩ ∧ t.stream = s.stream

/-- A host access to `IBUF` beyond `FRAME_MAX` faults by name, and every other step has a next state (the model's
choice, log 11). -/
def Obligations.StepStopsOnlyBeyondFrameMax : Prop :=
  ∀ s : State,
    (∀ off b rest, s.stream = .writeByte off b :: rest → decidedConfig.frameMax ≤ off → step s = .fault .ibufOffset) ∧
    (∀ n rest, s.stream = .setLen n :: rest → decidedConfig.frameMax < n → step s = .fault .ibufLength) ∧
    ((∃ t, step s = .next t) ∨
      (∃ off b rest, s.stream = .writeByte off b :: rest ∧ decidedConfig.frameMax ≤ off ∧
        step s = .fault .ibufOffset) ∨
      (∃ n rest, s.stream = .setLen n :: rest ∧ decidedConfig.frameMax < n ∧ step s = .fault .ibufLength))

/-- 70_reset_and_hazards.md R222: with no request "it does nothing on its own".  That a step without a request shows
no response is the model's choice (log 3). -/
def Obligations.BlockWaitsForTheHost : Prop :=
  ∀ s : State, s.stream = [] → step s = .next { s with rsp := none }

/-- 10_state.md R34 and 70_reset_and_hazards.md R220: a reset, also one that comes before the response to an accepted
request, gives every register its reset value.  That it answers nothing and leaves the host's later actions is the
model's choice (logs 1, 3 and 12). -/
def Obligations.ResetGivesEveryRegisterItsResetValue : Prop :=
  ∀ (s : State) (rest : List HostAction),
    (s.stream = .reset :: rest ∨ ∃ w, s.stream = .requestThenReset w :: rest) →
    ∃ t, step s = .next t ∧
      t.bound = false ∧ t.tid = 0#3 ∧ (∀ i, i < 44 → bufferByte t.pkt i = 0#8) ∧ t.pktValid = false ∧
      t.telValid = false ∧ t.tel = ⟨0#5, 0#16, .forward, 0#10, 0#10, 0#64, 0#64, false, false, false, false⟩ ∧
      (∀ i, i < 32 → bufferByte t.txt i = 0#8) ∧ t.txtLen = 0#6 ∧ t.csr = 0#8 ∧ t.csrValid = false ∧
      t.status = 0#3 ∧ t.cause = 0#2 ∧ t.ibufLen = 0 ∧ t.rsp = none ∧ t.stream = rest

/-- The machine after reset has the register values of 10_state.md R34. -/
def Obligations.ResetStateHasTheResetValues : Prop :=
  State.reset.bound = false ∧ State.reset.tid = 0#3 ∧ (∀ i, i < 44 → bufferByte State.reset.pkt i = 0#8) ∧
  State.reset.pktValid = false ∧ State.reset.telValid = false ∧
  State.reset.tel = ⟨0#5, 0#16, .forward, 0#10, 0#10, 0#64, 0#64, false, false, false, false⟩ ∧
  (∀ i, i < 32 → bufferByte State.reset.txt i = 0#8) ∧ State.reset.txtLen = 0#6 ∧ State.reset.csr = 0#8 ∧
  State.reset.csrValid = false ∧ State.reset.status = 0#3 ∧ State.reset.cause = 0#2 ∧ State.reset.ibufLen = 0

/-- 20_memory.md R52: the host's bytes stand at offsets 0 to n-1, `IBUF_LEN` is n, of a longer buffer the first
`FRAME_MAX` bytes; every other byte of `IBUF` and every register of the block is as before.  That it is one step and
shows no response is the model's choice (logs 1 and 3). -/
def Obligations.FillPutsTheBytesInTheInputBuffer : Prop :=
  ∀ (s : State) (bytes : List Byte) (rest : List HostAction), s.stream = .fill bytes :: rest →
    ∃ t, step s = .next t ∧
      t = { s with ibuf := t.ibuf, ibufLen := min bytes.length decidedConfig.frameMax, stream := rest, rsp := none } ∧
      (∀ i b, i < decidedConfig.frameMax → bytes[i]? = some b → byteAt t .ibuf i = b) ∧
      (∀ i, min bytes.length decidedConfig.frameMax ≤ i → byteAt t .ibuf i = byteAt s .ibuf i)

/-- 10_state.md R40: the write port changes one byte of `IBUF`, the length port changes `IBUF_LEN` only.  That each is
one step and shows no response is the model's choice (logs 1 and 3). -/
def Obligations.WritePortAndLengthPortChangeOneThing : Prop :=
  ∀ (s : State) (rest : List HostAction),
    (∀ off b, s.stream = .writeByte off b :: rest → off < decidedConfig.frameMax →
      ∃ t, step s = .next t ∧ t = { s with ibuf := t.ibuf, stream := rest, rsp := none } ∧
        byteAt t .ibuf off = b ∧ ∀ i, i ≠ off → byteAt t .ibuf i = byteAt s .ibuf i) ∧
    (∀ n, s.stream = .setLen n :: rest → n ≤ decidedConfig.frameMax →
      step s = .next { s with ibufLen := n, stream := rest, rsp := none })

/-! ## BIND -/

/-- 41_encoder.md R120: an unbound block is bound by any id from 1 to 7, and nothing but `BOUND`, `TID`, `STATUS`,
`CAUSE` and the response changes; any other id is `InvalidConfiguration`; any id on a bound block is `AlreadyBound`. -/
def Obligations.BindHasThreeOutcomes : Prop :=
  ∀ (s : State) (id : Nat),
    (s.bound = false → 1 ≤ id → id ≤ 7 →
      ∃ t, exec (.bind id) s = .next t ∧ t.tid.toNat = id ∧
        t = { s with bound := true, tid := t.tid, status := 0#3, cause := 0#2, rsp := some ⟨0#3, 0#2⟩ }) ∧
    (s.bound = false → id < 1 ∨ 7 < id →
      ∃ t, exec (.bind id) s = .next t ∧ t.bound = false ∧ t.tid = s.tid ∧ t.status = 1#3 ∧ t.cause = 0#2) ∧
    (s.bound = true →
      ∃ t, exec (.bind id) s = .next t ∧ t.bound = true ∧ t.tid = s.tid ∧ t.status = 5#3 ∧ t.cause = 0#2)

/-- 41_encoder.md R122: "Failures of `BIND` change no state but `STATUS` and `CAUSE`"; after `InvalidConfiguration` a
later `BIND` with a valid id succeeds, after `AlreadyBound` the binding is untouched.  Any id, valid or not, on a bound
block is `AlreadyBound`. -/
def Obligations.FailedBindChangesOnlyTheOutcome : Prop :=
  ∀ (s : State) (id : Nat),
    (s.bound = true → exec (.bind id) s = .next { s with status := 5#3, cause := 0#2, rsp := some ⟨5#3, 0#2⟩ }) ∧
    (s.bound = false → id < 1 ∨ 7 < id →
      exec (.bind id) s = .next { s with status := 1#3, cause := 0#2, rsp := some ⟨1#3, 0#2⟩ } ∧
      ∀ id', 1 ≤ id' → id' ≤ 7 →
        ∃ u, exec (.bind id') { s with status := 1#3, cause := 0#2, rsp := some ⟨1#3, 0#2⟩ } = .next u ∧
          u.bound = true ∧ u.tid.toNat = id' ∧ u.status = 0#3)

/-- 41_encoder.md R121 and 10_state.md R31 (vi): once bound, every step but a reset keeps `BOUND` and `TID`; and where
a step that is no reset changes either, it ran a `BIND` that succeeded on an unbound block. -/
def Obligations.BindingLastsUntilReset : Prop :=
  ∀ s t : State, step s = .next t → ¬NextIsReset s →
    (s.bound = true → t.bound = true ∧ t.tid = s.tid) ∧
    (t.bound ≠ s.bound ∨ t.tid ≠ s.tid →
      s.bound = false ∧ t.bound = true ∧ t.status = 0#3 ∧
        ∃ w rest id, s.stream = .request w :: rest ∧ decodeRequest w = .bind id ∧ t.tid.toNat = id)

/-! ## ENCODE -/

/-- 41_encoder.md R129, with the layout of 30_encoding.md R80 (`FLAG_SHIFT` = 0): on a bound block, a good rpm and a
recognised direction give the whole packet, checksum-valid, and nothing else changes but `PKT_VALID`, `STATUS`,
`CAUSE` and the response.  10_state.md R31 (ii) is the premise on `TID`. -/
def Obligations.EncodeProducesThePacket : Prop :=
  ∀ (s : State) (rpm : Int) (dir : DirField) (d : Direction) (mode : Mode),
    s.bound = true → 1 ≤ s.tid.toNat → recognised dir = some d →
    ∃ t, exec (.encode true rpm dir mode) s = .next t ∧
      t = { s with pkt := t.pkt, pktValid := true, status := 0#3, cause := 0#2, rsp := some ⟨0#3, 0#2⟩ } ∧
      PacketShape s.tid.toNat (demand (clamp rpm)) (directionCode d) (modeCode mode) t.pkt ∧
      ChecksumValid t.pkt

/-- 41_encoder.md R123, R130: the tests in their order, and what a failure leaves: 44 bytes of 0x00, `PKT_VALID` 0,
the outcome, and everything else as before. -/
def Obligations.FailedEncodeLeavesNoPacket : Prop :=
  ∀ (s : State) (rpmOk : Bool) (rpm : Int) (dir : DirField) (mode : Mode),
    (s.bound = false →
      exec (.encode rpmOk rpm dir mode) s =
        .next { s with pkt := zeroPacket, pktValid := false, status := 4#3, cause := 0#2, rsp := some ⟨4#3, 0#2⟩ }) ∧
    (s.bound = true → rpmOk = false →
      exec (.encode rpmOk rpm dir mode) s =
        .next { s with pkt := zeroPacket, pktValid := false, status := 2#3, cause := 1#2, rsp := some ⟨2#3, 1#2⟩ }) ∧
    (s.bound = true → rpmOk = true → dir = .dir2 ∨ dir = .dir3 →
      exec (.encode rpmOk rpm dir mode) s =
        .next { s with pkt := zeroPacket, pktValid := false, status := 2#3, cause := 2#2, rsp := some ⟨2#3, 2#2⟩ })

/-- 41_encoder.md R124: the clamp on every integer, and that it is silent: an `ENCODE` of `rpm` is the `ENCODE` of the
clamped rpm, in every state and for every direction and mode, and on a bound block its outcome is `OK`. -/
def Obligations.ClampIsSilent : Prop :=
  ∀ rpm : Int,
    (rpm ≤ 0 → clamp rpm = 0) ∧ (2200 < rpm → clamp rpm = 2200) ∧
    (0 ≤ rpm → rpm ≤ 2200 → (clamp rpm : Int) = rpm) ∧
    ∀ (s : State) (rpmOk : Bool) (dir : DirField) (mode : Mode),
      exec (.encode rpmOk rpm dir mode) s = exec (.encode rpmOk (clamp rpm : Int) dir mode) s ∧
      ∀ d, s.bound = true → recognised dir = some d →
        ∃ t, exec (.encode true rpm dir mode) s = .next t ∧ t.status = 0#3 ∧ t.cause = 0#2

/-- 41_encoder.md R125: the demand of a clamped rpm is the floor of `c / 2800 * 65536`, equally `(c * 4096) div 175`;
its low byte and high byte stand in the packet's slot (for any bound id). -/
def Obligations.DemandIsTheScaledFloor : Prop :=
  ∀ c : Nat, c ≤ 2200 →
    (demand c : Int) = ⌊(c : ℚ) / 2800 * 65536⌋ ∧ demand c = c * 4096 / 175 ∧
    ∀ (t : Nat) (d : Direction) (m : Mode), 1 ≤ t → t ≤ 7 →
      (bufferByte (encodePacket decidedConfig t c d m) (2 * t)).toNat = demand c / 256 ∧
      (bufferByte (encodePacket decidedConfig t c d m) (2 * t - 1)).toNat = demand c % 256

/-- 41_encoder.md R125, its derived remark: evaluating the source's expression in binary64 in the order written (divide,
multiply, floor) gives the same integer.  The arithmetic is the spec's general-knowledge statement G2 (log 7). -/
def Obligations.DemandInBinary64IsTheSame : Prop :=
  ∀ c : Nat, c ≤ 2200 →
    ⌊fracValue (valueOf64 (fmul (fdiv (roundTo64 ⟨c, 1⟩) (roundTo64 ⟨2800, 1⟩)) (roundTo64 ⟨65536, 1⟩)))⌋ =
      (demand c : Int)

/-- 41_encoder.md R126 (a) to (f). -/
def Obligations.DemandHasTheListedProperties : Prop :=
  demand 0 = 0 ∧ demand 2200 = 51492 ∧ demand 1400 = 32768 ∧ demand 1 = 23 ∧
  (∀ n, demand (175 * n) = 4096 * n) ∧
  (∀ c, c ≤ 2200 → demand c / 256 ≤ 0xC9) ∧
  (∀ c, c ≤ 2199 → demand (c + 1) = demand c + 23 ∨ demand (c + 1) = demand c + 24) ∧
  (∀ r r' : Int, r ≤ r' → demand (clamp r) ≤ demand (clamp r'))

/-- 30_encoding.md R88: bytes 39 to 42, and the checksum of a packet as the sum over its body and as a sum of seven
terms (`FLAG_SHIFT` = 0). -/
def Obligations.PacketChecksumIsOneSum : Prop :=
  ∀ (t : Nat) (rpm : Int) (d : Direction) (m : Mode), 1 ≤ t → t ≤ 7 →
    (bufferByte (encodePacket decidedConfig t rpm d m) 43).toNat =
      (165 + ((List.range 43).map fun i => (bufferByte (encodePacket decidedConfig t rpm d m) i).toNat).sum) % 256 ∧
    (bufferByte (encodePacket decidedConfig t rpm d m) 43).toNat =
      (165 + t + demand (clamp rpm) % 256 + demand (clamp rpm) / 256 + directionCode d + modeCode m + 1) % 256 ∧
    ∀ i, 39 ≤ i → i ≤ 42 → bufferByte (encodePacket decidedConfig t rpm d m) i = 0#8

/-- 40_checksum.md R115 under every configuration and for every id: an assembled packet is checksum-valid, and 44
bytes of 0x00 are not. -/
def Obligations.PacketsAreChecksumValidUnderEveryConfig : Prop :=
  (∀ (cfg : Config) (t : Nat) (rpm : Int) (d : Direction) (m : Mode), ChecksumValid (encodePacket cfg t rpm d m)) ∧
  ¬ChecksumValid zeroPacket

/-- 41_encoder.md R131: the cleared `PKT` is no produced packet. -/
def Obligations.ClearedPacketIsNoPacket : Prop :=
  ∀ (t : Nat) (rpm : Int) (d : Direction) (m : Mode), 1 ≤ t → t ≤ 7 →
    encodePacket decidedConfig t rpm d m ≠ zeroPacket ∧
    1 ≤ (bufferByte (encodePacket decidedConfig t rpm d m) 0).toNat ∧
    bufferByte (encodePacket decidedConfig t rpm d m) 37 = 1#8

/-- 30_encoding.md R89: for one id, two clamped commands give the same packet only if they are the same command, and
all packets agree outside the slot, the direction byte, the mode byte and the checksum. -/
def Obligations.DistinctCommandsGiveDistinctPackets : Prop :=
  ∀ (t c c' : Nat) (d d' : Direction) (m m' : Mode), 1 ≤ t → t ≤ 7 → c ≤ 2200 → c' ≤ 2200 →
    (encodePacket decidedConfig t c d m = encodePacket decidedConfig t c' d' m' → c = c' ∧ d = d' ∧ m = m') ∧
    ∀ i, i ≠ 2 * t - 1 → i ≠ 2 * t → i ≠ 33 → i ≠ 35 → i ≠ 43 →
      bufferByte (encodePacket decidedConfig t c d m) i = bufferByte (encodePacket decidedConfig t c' d' m') i

/-- 93_implementation_defined.md U13: with the same `ADDR_BYTE`, the bytes other than 33, 35, 37 and 43 do not depend
on `FLAG_SHIFT`, nor on any other parameter. -/
def Obligations.OtherPacketBytesIgnoreFlagShift : Prop :=
  ∀ (cfg cfg' : Config) (t : Nat) (rpm : Int) (d : Direction) (m : Mode), cfg.addrByte t = cfg'.addrByte t →
    ∀ i, i ≠ 33 → i ≠ 35 → i ≠ 37 → i ≠ 43 →
      bufferByte (encodePacket cfg t rpm d m) i = bufferByte (encodePacket cfg' t rpm d m) i

/-- 10_state.md R33: "The result of `ENCODE` is a function of (`BOUND`, `TID`, request); the results of `DECODE` and
`CSUM` are functions of (`IBUF`, `IBUF_LEN`, request, `Config`) alone." -/
def Obligations.ResultsAreFunctionsOfTheirInputs : Prop :=
  ∀ s s' t t' : State,
    (∀ rpmOk rpm dir mode, s.bound = s'.bound → s.tid = s'.tid →
      exec (.encode rpmOk rpm dir mode) s = .next t → exec (.encode rpmOk rpm dir mode) s' = .next t' →
      t.pkt = t'.pkt ∧ t.pktValid = t'.pktValid ∧ t.status = t'.status ∧ t.cause = t'.cause) ∧
    (s.ibufLen = s'.ibufLen → (∀ i, i < s.ibufLen → byteAt s .ibuf i = byteAt s' .ibuf i) →
      (∀ form, exec (.decode form) s = .next t → exec (.decode form) s' = .next t' →
        SameReplyResults t t' ∧ t.status = t'.status ∧ t.cause = t'.cause) ∧
      (exec .csum s = .next t → exec .csum s' = .next t' →
        t.csr = t'.csr ∧ t.csrValid = t'.csrValid ∧ t.status = t'.status ∧ t.cause = t'.cause))

/-! ## DECODE -/

/-- 42_decoder.md R150, R170: a frame of at most 19 bytes is `NoData` and leaves nothing of a result; no byte of the
frame matters, and nothing else changes. -/
def Obligations.ShortFrameIsNoData : Prop :=
  ∀ (s : State) (form : Form), s.ibufLen ≤ 19 →
    exec (.decode form) s = .next { s with
      telValid := false, tel := ⟨0#5, 0#16, .forward, 0#10, 0#10, 0#64, 0#64, false, false, false, false⟩,
      txt := Vector.replicate 32 0#8, txtLen := 0#6, status := 3#3, cause := 0#2, rsp := some ⟨3#3, 0#2⟩ }

/-- 42_decoder.md R151 to R154 and R160, for `condensed` = 0: a frame of 20 bytes or more is decoded field by field
from `IBUF`; the text record is cleared, nothing else changes. -/
def Obligations.DecodeFillsTheTelemetryRegisters : Prop :=
  ∀ s : State, 19 < s.ibufLen →
    ∃ t, exec (.decode .tel) s = .next t ∧
      t = { s with
        tel := t.tel, telValid := true, txt := Vector.replicate 32 0#8, txtLen := 0#6,
        status := 0#3, cause := 0#2, rsp := some ⟨0#3, 0#2⟩ } ∧
      t.tel.address.toNat = (byteAt s .ibuf 0).toNat % 32 ∧
      t.tel.speed.toNat = (byteAt s .ibuf 2).toNat * 256 + (byteAt s .ibuf 1).toNat ∧
      directionCode t.tel.direction = (byteAt s .ibuf 18).toNat % 2 ∧
      t.tel.curRaw.toNat = ((byteAt s .ibuf 4).toNat * 256 + (byteAt s .ibuf 3).toNat) % 1024 ∧
      t.tel.tmpRaw.toNat = ((byteAt s .ibuf 6).toNat * 256 + (byteAt s .ibuf 5).toNat) % 1024

/-- 42_decoder.md R168, R169 for `condensed` = 1: the record of the same telemetry the other form would store stands
at the start of `TXT`, 0x00 behind it, its length in `TXT_LEN`; the telemetry registers are cleared and nothing else
changes. -/
def Obligations.DecodeWritesTheTextRecord : Prop :=
  ∀ s : State, 19 < s.ibufLen →
    ∃ t r, exec (.decode .txt) s = .next t ∧ decodeFields decidedConfig (replyFrame s) = some r ∧
      t = { s with
        txt := t.txt, txtLen := t.txtLen, telValid := false,
        tel := ⟨0#5, 0#16, .forward, 0#10, 0#10, 0#64, 0#64, false, false, false, false⟩,
        status := 0#3, cause := 0#2, rsp := some ⟨0#3, 0#2⟩ } ∧
      t.txtLen.toNat = (render decidedConfig r).length ∧
      (∀ i b, (render decidedConfig r)[i]? = some b → bufferByte t.txt i = b) ∧
      (∀ i, t.txtLen.toNat ≤ i → i < 32 → bufferByte t.txt i = 0#8) ∧
      ∃ u, exec (.decode .tel) s = .next u ∧ u.tel = telRegsOf decidedConfig r ∧ u.telValid = true ∧ u.txtLen = 0#6

/-- 42_decoder.md R158, R161: the two scaled values are the exact rationals of the raw fields, under every
configuration; the temperature is never 0 and grows with the raw value. -/
def Obligations.ScaledValuesAreExact : Prop :=
  ∀ (cfg : Config) (frame : List Byte) (r : Telemetry), decodeFields cfg frame = some r →
    fracValue r.currentAmps = (r.curRaw.toNat : ℚ) / 59 ∧
    fracValue r.temperatureC = (146.9 / 200 : ℚ) * r.tmpRaw.toNat - 245.8415 ∧
    0 ≤ fracValue r.currentAmps ∧ fracValue r.currentAmps ≤ 1023 / 59 ∧
    -245.8415 ≤ fracValue r.temperatureC ∧ fracValue r.temperatureC ≤ 505.5520 ∧ fracValue r.temperatureC ≠ 0 ∧
    ∀ (frame' : List Byte) (r' : Telemetry), decodeFields cfg frame' = some r' → r.tmpRaw < r'.tmpRaw →
      fracValue r.temperatureC < fracValue r'.temperatureC

/-- 42_decoder.md R162 (binary64 is the spec's general-knowledge statement, log 7): after a `DECODE TEL` no finite
binary64 is nearer to the exact current than the current port, which is the rounding of the exact fraction, and the
temperature port is within 1.01e-13 of the exact temperature. -/
def Obligations.ScaledPortsAreClose : Prop :=
  ∀ s : State, 19 < s.ibufLen →
    ∃ t, exec (.decode .tel) s = .next t ∧
      t.tel.currentAmps = roundTo64 (amps t.tel.curRaw) ∧
      (∀ b : BitVec 64, b.extractLsb' 52 11 ≠ 0x7FF#11 →
        |fracValue (valueOf64 t.tel.currentAmps) - (t.tel.curRaw.toNat : ℚ) / 59| ≤
          |fracValue (valueOf64 b) - (t.tel.curRaw.toNat : ℚ) / 59|) ∧
      |fracValue (valueOf64 t.tel.temperatureC) - fracValue (celsius t.tel.tmpRaw)| ≤ 1.01e-13

/-- 42_decoder.md R165: under `LITERAL` no frame asserts a fault boolean; nor does a `DECODE`, `LITERAL` being the
decided policy. -/
def Obligations.LiteralPolicyNeverReportsAFault : Prop :=
  (∀ (cfg : Config) (frame : List Byte) (r : Telemetry), cfg.faultPolicy = .literal →
    decodeFields cfg frame = some r →
    r.leak = false ∧ r.speedError = false ∧ r.overTemp = false ∧ r.overCurrent = false) ∧
  ∀ (s t : State) (form : Form), exec (.decode form) s = .next t →
    t.tel.leak = false ∧ t.tel.speedError = false ∧ t.tel.overTemp = false ∧ t.tel.overCurrent = false

/-- 42_decoder.md R166: under `NONZERO` each fault boolean is its bit of the status byte. -/
def Obligations.NonzeroPolicyReportsTheStatusBits : Prop :=
  ∀ (cfg : Config) (frame : List Byte) (r : Telemetry), cfg.faultPolicy = .nonzero → decodeFields cfg frame = some r →
    r.leak = (frameByte frame 18).getLsbD 4 ∧ r.speedError = (frameByte frame 18).getLsbD 3 ∧
    r.overTemp = (frameByte frame 18).getLsbD 2 ∧ r.overCurrent = (frameByte frame 18).getLsbD 1

/-- 30_encoding.md R96: two frames of 20 bytes or more that agree on the interpreted bits decode identically, in
either form, whatever their lengths and whatever else the two states hold (10_state.md R33). -/
def Obligations.UninterpretedBitsDoNotMatter : Prop :=
  ∀ (s s' t t' : State) (form : Form), 19 < s.ibufLen → 19 < s'.ibufLen → SameInterpretedBits s s' →
    exec (.decode form) s = .next t → exec (.decode form) s' = .next t' → SameReplyResults t t'

/-! ## The condensed record -/

/-- 30_encoding.md R101: the numeral of `n` has only ASCII digits, stands for `n`, and has no leading zero. -/
def Obligations.NumeralsAreDecimal : Prop :=
  ∀ n : Nat, (∀ b ∈ dec n, IsDigit b) ∧ numeralValue (dec n) = n ∧ (dec n ≠ []) ∧
    ((dec n).head? = some 0x30#8 → n = 0) ∧ dec 0 = [0x30#8]

/-- 30_encoding.md R103: the hundredths are within one half of `100 q`, under every configuration and for every
fraction with a positive denominator; under the decided `round2` a tie goes to the even side.  Of any fraction `fix2`
prints "-" exactly if its hundredths are negative, the numeral of their magnitude div 100, ".", and two decimal digits
that stand for the magnitude mod 100. -/
def Obligations.Fix2RoundsToHundredthsAndPrintsThem : Prop :=
  ∀ (cfg : Config) (q : Frac),
    (0 < q.den →
      |(round2 cfg q : ℚ) - 100 * fracValue q| ≤ 1 / 2 ∧
      (|(round2 decidedConfig q : ℚ) - 100 * fracValue q| = 1 / 2 → round2 decidedConfig q % 2 = 0)) ∧
    ∃ tens ones : Byte,
      fix2 cfg q =
        (if round2 cfg q < 0 then [0x2D#8] else []) ++ dec ((round2 cfg q).natAbs / 100) ++ [0x2E#8, tens, ones] ∧
      IsDigit tens ∧ IsDigit ones ∧ numeralValue [tens, ones] = (round2 cfg q).natAbs % 100

/-- 30_encoding.md R103: a current is never a tie, a temperature is one exactly when `tmp_raw mod 20 = 17`, and a
negative temperature never rounds to zero hundredths. -/
def Obligations.TiesAreExactlyTheListedTemperatures : Prop :=
  ∀ (cfg : Config) (raw : BitVec 10),
    |(round2 cfg (amps raw) : ℚ) - 100 * fracValue (amps raw)| ≠ 1 / 2 ∧
    (|(round2 cfg (celsius raw) : ℚ) - 100 * fracValue (celsius raw)| = 1 / 2 ↔ raw.toNat % 20 = 17) ∧
    (fracValue (celsius raw) < 0 → round2 cfg (celsius raw) < 0)

/-- 30_encoding.md R104: the record of a decoded frame has 23 to 32 bytes, under every configuration. -/
def Obligations.RecordHasTwentyThreeToThirtyTwoBytes : Prop :=
  ∀ (cfg : Config) (frame : List Byte) (r : Telemetry), decodeFields cfg frame = some r →
    23 ≤ (render cfg r).length ∧ (render cfg r).length ≤ 32

/-- 30_encoding.md R100, R102: cut at its commas, the record of any telemetry is the nine fields in their order. -/
def Obligations.RecordIsNineFieldsBetweenCommas : Prop :=
  ∀ (cfg : Config) (r : Telemetry),
    (render cfg r).splitOn 0x2C#8 =
      [dec r.address.toNat, dec r.speed.toNat, [if r.direction = .forward then 0x30#8 else 0x31#8],
       fix2 cfg r.currentAmps, fix2 cfg r.temperatureC, [if r.leak then 0x31#8 else 0x30#8],
       [if r.speedError then 0x31#8 else 0x30#8], [if r.overTemp then 0x31#8 else 0x30#8],
       [if r.overCurrent then 0x31#8 else 0x30#8]]

/-! ## CSUM -/

/-- 40_checksum.md R110: the checksum of 43 bytes; the sum needs no more than 14 bits. -/
def Obligations.ChecksumIsSeedPlusBytesModulo256 : Prop :=
  ∀ body : List Byte, body.length = 43 →
    (csum body).toNat = (165 + (body.map BitVec.toNat).sum) % 256 ∧ 165 + (body.map BitVec.toNat).sum ≤ 11130

/-- 40_checksum.md R111: the 8-bit accumulator gives the checksum, in any order of the bytes, and bytes of 0x00
contribute nothing. -/
def Obligations.ChecksumIsAnEightBitAccumulator : Prop :=
  ∀ body : List Byte, accumulate body = csum body ∧
    (∀ body' : List Byte, body.Perm body' → csum body' = csum body) ∧
    csum (body.filter (fun b => b ≠ 0#8)) = csum body

/-- 40_checksum.md R112: with `IBUF_LEN` = 43 the checksum of `IBUF[0..42]` goes to `CSR`; nothing else changes but
`CSR_VALID`, `STATUS`, `CAUSE` and the response.  With another length the outcome is `BadLength`. -/
def Obligations.CsumWritesTheChecksumOfTheBody : Prop :=
  ∀ s : State,
    (s.ibufLen = 43 →
      ∃ t, exec .csum s = .next t ∧
        t.csr.toNat = (165 + ((List.range 43).map fun i => (byteAt s .ibuf i).toNat).sum) % 256 ∧
        t = { s with csr := t.csr, csrValid := true, status := 0#3, cause := 0#2, rsp := some ⟨0#3, 0#2⟩ }) ∧
    (s.ibufLen ≠ 43 → ∃ t, exec .csum s = .next t ∧ t.status = 6#3 ∧ t.cause = 0#2 ∧ t.csrValid = false)

/-- 40_checksum.md R113: any other length is `BadLength`, clears `CSR`, and reads no byte of `IBUF`. -/
def Obligations.OtherLengthsAreBadLength : Prop :=
  ∀ s : State, s.ibufLen ≠ 43 →
    exec .csum s = .next { s with csr := 0#8, csrValid := false, status := 6#3, cause := 0#2, rsp := some ⟨6#3, 0#2⟩ }

/-- 40_checksum.md R112, R115: a host that fills `IBUF` with the first 43 bytes of the packet just encoded finds the
packet's byte 43 in `CSR`, the packet still in place. -/
def Obligations.HostCanCheckAPacketWithCsum : Prop :=
  ∀ (s : State) (rpm : Int) (dir : DirField) (d : Direction) (mode : Mode),
    s.bound = true → recognised dir = some d → 43 ≤ decidedConfig.frameMax →
    ∃ t u v, exec (.encode true rpm dir mode) s = .next t ∧
      hostFill decidedConfig (t.pkt.toList.take 43) t = .next u ∧ exec .csum u = .next v ∧
      v.csr = bufferByte v.pkt 43 ∧ v.csrValid = true ∧ v.pkt = t.pkt ∧ v.pktValid = true

/-! ## All operations -/

/-- 60_exceptions.md R190, R195: which outcome an operation ends with, exactly when; no other code is produced. -/
def Obligations.OutcomesArePreciselyTheListed : Prop :=
  ∀ (i : Instr) (s t : State), exec i s = .next t →
    (t.status = 5#3 ↔ ∃ id, i = .bind id ∧ s.bound = true) ∧
    (t.status = 1#3 ↔ ∃ id, i = .bind id ∧ s.bound = false ∧ (id < 1 ∨ 7 < id)) ∧
    (t.status = 4#3 ↔ ∃ ok rpm dir mode, i = .encode ok rpm dir mode ∧ s.bound = false) ∧
    (t.status = 2#3 ∧ t.cause = 1#2 ↔ ∃ rpm dir mode, i = .encode false rpm dir mode ∧ s.bound = true) ∧
    (t.status = 2#3 ∧ t.cause = 2#2 ↔
      ∃ rpm dir mode, i = .encode true rpm dir mode ∧ s.bound = true ∧ (dir = .dir2 ∨ dir = .dir3)) ∧
    (t.status = 3#3 ↔ ∃ form, i = .decode form ∧ s.ibufLen ≤ 19) ∧
    (t.status = 6#3 ↔ i = .csum ∧ s.ibufLen ≠ 43) ∧
    t.status ≠ 7#3 ∧ t.cause ≠ 3#2 ∧ (t.status ≠ 2#3 → t.cause = 0#2) ∧ (t.status = 2#3 → t.cause ≠ 0#2)

/-- 60_exceptions.md R200: a failure clears the results of its own unit and changes nothing else but `STATUS`, `CAUSE`
and the response. -/
def Obligations.FailureClearsItsOwnUnitOnly : Prop :=
  ∀ (i : Instr) (s t : State), exec i s = .next t → t.status ≠ 0#3 →
    t = { (match i with
        | .bind _ => s
        | .encode _ _ _ _ => { s with pkt := zeroPacket, pktValid := false }
        | .decode _ => { s with tel := TelRegs.zero, telValid := false, txt := Vector.replicate 32 0#8, txtLen := 0#6 }
        | .csum => { s with csr := 0#8, csrValid := false }) with
      status := t.status, cause := t.cause, rsp := some ⟨t.status, t.cause⟩ }

/-- 10_state.md R32 and 20_memory.md R55: what no operation of another unit writes, register by register and byte by
byte. -/
def Obligations.OperationsWriteTheirOwnUnitOnly : Prop :=
  ∀ (i : Instr) (s t : State), exec i s = .next t →
    t.ibuf = s.ibuf ∧ t.ibufLen = s.ibufLen ∧ t.stream = s.stream ∧ (∀ a, byteAt t .ibuf a = byteAt s .ibuf a) ∧
    (operationOf i ≠ .bind → t.bound = s.bound ∧ t.tid = s.tid) ∧
    (operationOf i ≠ .encode →
      t.pktValid = s.pktValid ∧ ∀ a, byteAt t .pkt a = byteAt s .pkt a) ∧
    (operationOf i ≠ .decode →
      t.tel = s.tel ∧ t.telValid = s.telValid ∧ t.txtLen = s.txtLen ∧ ∀ a, byteAt t .txt a = byteAt s .txt a) ∧
    (operationOf i ≠ .csum → t.csr = s.csr ∧ t.csrValid = s.csrValid)

/-- 20_memory.md R55: "Every operation is idempotent except `BIND`", whose second issue is `AlreadyBound`. -/
def Obligations.OperationsOtherThanBindAreIdempotent : Prop :=
  ∀ (i : Instr) (s t : State), exec i s = .next t →
    (operationOf i ≠ .bind → exec i t = .next t) ∧
    (operationOf i = .bind → t.status = 0#3 → ∃ u, exec i t = .next u ∧ u.status = 5#3)

/-- 60_exceptions.md R202: after a failure every operation is available again as if the failed request had not been
made: the next operation ends with the outcome and leaves the results of its unit that it would have. -/
def Obligations.FailuresAreNotSticky : Prop :=
  ∀ (i j : Instr) (s t u v : State), exec i s = .next t → t.status ≠ 0#3 → exec j s = .next u → exec j t = .next v →
    v.status = u.status ∧ v.cause = u.cause ∧ v.bound = u.bound ∧ v.tid = u.tid ∧
    (operationOf j = .encode → v.pkt = u.pkt ∧ v.pktValid = u.pktValid) ∧
    (operationOf j = .decode → SameReplyResults v u) ∧
    (operationOf j = .csum → v.csr = u.csr ∧ v.csrValid = u.csrValid)

/-! ## Invariants -/

/-- 10_state.md R31 (i) to (iv): every step keeps the encoder's invariant. -/
def Obligations.StepsKeepTheEncoderInvariant : Prop :=
  ∀ s t : State, EncoderInv s → step s = .next t → EncoderInv t

/-- 10_state.md R31 (v), R25, R27: every step keeps the decoder's invariant. -/
def Obligations.StepsKeepTheDecoderInvariant : Prop :=
  ∀ s t : State, DecoderInv s → step s = .next t → DecoderInv t

/-- 10_state.md R28, 60_exceptions.md R190: every step keeps `CSR` cleared while invalid and the codes legal. -/
def Obligations.StepsKeepTheOutcomeInvariant : Prop :=
  ∀ s t : State, OutcomeInv s → step s = .next t → OutcomeInv t

/-- 20_memory.md R50, R52: every step keeps `IBUF` canonical and within `FRAME_MAX`. -/
def Obligations.StepsKeepTheInputBufferInvariant : Prop :=
  ∀ s t : State, InputInv s → step s = .next t → InputInv t

/-- The four invariants hold at reset. -/
def Obligations.ResetMeetsTheInvariants : Prop :=
  EncoderInv State.reset ∧ DecoderInv State.reset ∧ OutcomeInv State.reset ∧ InputInv State.reset
end

