-- ==== Sys2Proof/Laws/Binary64.lean ====
section
/-! SUPPORT. What a binary64 pattern can stand for, and when one is nearest (42_decoder.md R162, log 7). -/

namespace Sys2Proof.Laws

open Sys2Proof.Machine Sys2Proof.Safety

/-- The value of a pattern is an integer below `2 ^ 53` in magnitude, times a power of two. -/
theorem fracValue_valueOf64 (b : BitVec 64) :
    ∃ k y : ℤ, |k| < 2 ^ 53 ∧ fracValue (valueOf64 b) = (k : ℚ) * (2 : ℚ) ^ y := by
  have hf : (b.extractLsb' 0 52).toNat < 2 ^ 52 := (b.extractLsb' 0 52).isLt
  obtain ⟨m, y, hm, h⟩ : ∃ (m : ℕ) (y : ℤ), m < 2 ^ 53 ∧
      valueOf64 b = ⟨if b.getLsbD 63 then -((m : ℤ) * 2 ^ y.toNat) else (m : ℤ) * 2 ^ y.toNat, 2 ^ (-y).toNat⟩ := by
    refine ⟨if (b.extractLsb' 52 11).toNat = 0 then (b.extractLsb' 0 52).toNat else 2 ^ 52 + (b.extractLsb' 0 52).toNat,
      (if (b.extractLsb' 52 11).toNat = 0 then 1 else ((b.extractLsb' 52 11).toNat : Int)) - 1075, ?_, rfl⟩
    split <;> omega
  have key : (2 : ℚ) ^ y.toNat / 2 ^ (-y).toNat = (2 : ℚ) ^ y := by
    rcases Int.le_total 0 y with h | h
    · obtain ⟨n, rfl⟩ := Int.eq_ofNat_of_zero_le h
      simp
    · obtain ⟨n, hn⟩ := Int.eq_ofNat_of_zero_le (show 0 ≤ -y by omega)
      obtain rfl : y = -(n : ℤ) := by omega
      simp
  refine ⟨if b.getLsbD 63 then -(m : ℤ) else m, y, ?_, ?_⟩
  · split <;> simp <;> exact_mod_cast hm
  · rw [h]
    simp only [fracValue]
    split <;> push_cast <;> rw [← key] <;> ring

/-- On the grid of multiples of `2 ^ x`, a point within half a spacing of `v` is nearest to `v`. -/
theorem nearest_on_grid {v p : ℚ} {m x : ℤ} (hp : p = (m : ℚ) * 2 ^ x) (hh : |p - v| ≤ 2 ^ x / 2) (k : ℤ) :
    |p - v| ≤ |(k : ℚ) * 2 ^ x - v| := by
  rcases eq_or_ne k m with rfl | hk
  · rw [hp]
  · have h1 : (1 : ℚ) ≤ |((k - m : ℤ) : ℚ)| := by
      rw [← Int.cast_abs]
      exact_mod_cast Int.one_le_abs (sub_ne_zero.2 hk)
    have hx : (0 : ℚ) < 2 ^ x := by positivity
    have h2 : (2 : ℚ) ^ x ≤ |(k : ℚ) * 2 ^ x - p| := by
      have : (k : ℚ) * 2 ^ x - p = ((k - m : ℤ) : ℚ) * 2 ^ x := by rw [hp]; push_cast; ring
      rw [this, abs_mul, abs_of_pos hx]
      nlinarith
    have h3 := abs_sub_le ((k : ℚ) * 2 ^ x) v p
    rw [abs_sub_comm v p] at h3
    linarith

/-- A point of that grid within half a spacing of `v`, where `v` has a significand of 53 bits or more on it, is as near
to `v` as the value of any pattern. -/
theorem nearest_binary64 {v p : ℚ} {m x : ℤ} (hp : p = (m : ℚ) * 2 ^ x) (hh : |p - v| ≤ 2 ^ x / 2)
    (hv : 2 ^ 52 * (2 : ℚ) ^ x ≤ v) (b : BitVec 64) : |p - v| ≤ |fracValue (valueOf64 b) - v| := by
  obtain ⟨k, y, hk, hb⟩ := fracValue_valueOf64 b
  rw [hb]
  rcases le_or_gt x y with h | h
  · obtain ⟨n, hn⟩ := Int.eq_ofNat_of_zero_le (show 0 ≤ y - x by omega)
    have : (k : ℚ) * 2 ^ y = ((k * 2 ^ n : ℤ) : ℚ) * 2 ^ x := by
      obtain rfl : y = (n : ℤ) + x := by omega
      rw [zpow_add₀ two_ne_zero]
      push_cast
      rw [zpow_natCast]
      ring
    rw [this]
    exact nearest_on_grid hp hh _
  · have h0 := nearest_on_grid hp hh (2 ^ 52)
    rw [show ((2 ^ 52 : ℤ) : ℚ) = 2 ^ 52 by norm_num, abs_of_nonpos (by linarith : (2 : ℚ) ^ 52 * 2 ^ x - v ≤ 0)] at h0
    have hy : (2 : ℚ) ^ 53 * 2 ^ y ≤ 2 ^ 52 * 2 ^ x := by
      have : (2 : ℚ) ^ (y + 1) ≤ 2 ^ x := zpow_le_zpow_right₀ (by norm_num) (by omega)
      rw [zpow_add₀ two_ne_zero, zpow_one] at this
      nlinarith
    have hky : (k : ℚ) * 2 ^ y ≤ 2 ^ 53 * 2 ^ y := by
      have h53 : (k : ℚ) ≤ 2 ^ 53 := by exact_mod_cast (le_abs_self k).trans hk.le
      have : (0 : ℚ) < 2 ^ y := by positivity
      nlinarith
    rw [abs_of_nonpos (by linarith : (k : ℚ) * 2 ^ y - v ≤ 0)]
    linarith

end Sys2Proof.Laws
end

