-- ==== Sys2Proof/Laws/Memory.lean ====
section
/-! SUPPORT. The laws of the input buffer: reading after writing, and that writing keeps the canonical form. -/

namespace Sys2Proof.Laws

open Sys2Proof.Machine

@[simp] theorem get?_nil (off : Nat) : Memory.get? [] off = none := rfl

/-- Reading the byte just written. -/
theorem get?_write_same (m : Memory) (off : Nat) (v : Byte) :
    Memory.get? (Memory.write m off v) off = some v := by
  induction m with
  | nil => simp [Memory.write, Memory.get?]
  | cons c rest ih =>
    obtain ⟨a, b⟩ := c
    simp only [Memory.write]
    split
    · simp [Memory.get?]
    · split
      · simp [Memory.get?]
      · rename_i hlt hne
        simp [Memory.get?, Ne.symm hne, ih]

/-- A write leaves every other byte alone. -/
theorem get?_write_other (m : Memory) {off off' : Nat} (v : Byte) (h : off' ≠ off) :
    Memory.get? (Memory.write m off v) off' = Memory.get? m off' := by
  induction m with
  | nil => simp [Memory.write, Memory.get?, Ne.symm h]
  | cons c rest ih =>
    obtain ⟨a, b⟩ := c
    simp only [Memory.write]
    split
    · simp [Memory.get?, Ne.symm h]
    · split
      · rename_i hlt heq
        subst heq
        simp [Memory.get?, Ne.symm h]
      · simp [Memory.get?, ih]

/-- The offsets listed after a write. -/
theorem mem_write_offset {m : Memory} {off : Nat} {v : Byte} {c : Host.Cell} (h : c ∈ Memory.write m off v) :
    c.1 = off ∨ c ∈ m := by
  induction m with
  | nil => simp [Memory.write] at h; simp [h]
  | cons d rest ih =>
    obtain ⟨a, b⟩ := d
    simp only [Memory.write] at h
    split at h
    · rcases List.mem_cons.1 h with rfl | h
      · exact .inl rfl
      · exact .inr h
    · split at h
      · rcases List.mem_cons.1 h with rfl | h
        · exact .inl rfl
        · exact .inr (List.mem_cons_of_mem _ h)
      · rcases List.mem_cons.1 h with rfl | h
        · exact .inr (by simp)
        · exact (ih h).imp id (List.mem_cons_of_mem _)

/-- A write keeps the canonical form. -/
theorem wf_write {m : Memory} (h : Memory.wf m) (off : Nat) (v : Byte) : Memory.wf (Memory.write m off v) := by
  induction m with
  | nil => simp [Memory.wf, Memory.write]
  | cons c rest ih =>
    obtain ⟨a, b⟩ := c
    simp only [Memory.wf, List.map_cons, List.pairwise_cons] at h
    obtain ⟨hlow, hrest⟩ := h
    simp only [Memory.write]
    split
    · rename_i hlt
      simp only [Memory.wf, List.map_cons, List.pairwise_cons, List.mem_cons]
      refine ⟨?_, hlow, hrest⟩
      rintro x (rfl | hx)
      · exact hlt
      · exact lt_trans hlt (hlow x hx)
    · split
      · rename_i hlt heq
        subst heq
        simpa [Memory.wf] using And.intro hlow hrest
      · rename_i hlt hne
        simp only [Memory.wf, List.map_cons, List.pairwise_cons]
        refine ⟨?_, ih hrest⟩
        intro x hx
        obtain ⟨c, hc, rfl⟩ := List.mem_map.1 hx
        rcases mem_write_offset hc with hoff | hc
        · omega
        · exact hlow _ (List.mem_map_of_mem hc)

/-- Writing a list of bytes keeps the canonical form. -/
theorem wf_writeList {m : Memory} (h : Memory.wf m) (off : Nat) (l : List Byte) :
    Memory.wf (Memory.writeList m off l) := by
  induction l generalizing m off with
  | nil => exact h
  | cons v rest ih => exact ih (wf_write h off v) (off + 1)

/-- The offsets listed after writing a list of bytes. -/
theorem mem_writeList_offset {m : Memory} {off : Nat} {l : List Byte} {c : Host.Cell}
    (h : c ∈ Memory.writeList m off l) : (off ≤ c.1 ∧ c.1 < off + l.length) ∨ c ∈ m := by
  induction l generalizing m off with
  | nil => exact .inr h
  | cons v rest ih =>
    rcases ih h with ⟨h1, h2⟩ | h
    · left
      simp only [List.length_cons]
      omega
    · rcases mem_write_offset h with h | h
      · left
        simp only [List.length_cons]
        omega
      · exact .inr h

/-- Writing bytes from `off` leaves every offset outside them alone. -/
theorem get?_writeList_outside (m : Memory) {off off' : Nat} (l : List Byte)
    (h : off' < off ∨ off + l.length ≤ off') :
    Memory.get? (Memory.writeList m off l) off' = Memory.get? m off' := by
  induction l generalizing m off with
  | nil => rfl
  | cons v rest ih =>
    simp only [List.length_cons] at h
    rw [Memory.writeList, ih _ (by omega), get?_write_other _ _ (by omega)]

/-- Writing bytes from `off` puts the `k`-th at `off + k`. -/
theorem get?_writeList_inside (m : Memory) (off : Nat) (l : List Byte) {k : Nat} (h : k < l.length) :
    Memory.get? (Memory.writeList m off l) (off + k) = some l[k] := by
  induction l generalizing m off k with
  | nil => simp at h
  | cons v rest ih =>
    cases k with
    | zero =>
      rw [Memory.writeList, get?_writeList_outside _ _ (by omega)]
      exact get?_write_same m off v
    | succ k =>
      have := ih (Memory.write m off v) (off + 1) (k := k) (by simpa using h)
      rw [Memory.writeList]
      simpa [Nat.add_assoc, Nat.add_comm 1 k] using this

/-- The reset state's input buffer is in canonical form. -/
theorem wf_reset : Memory.wf State.reset.ibuf := by simp [Memory.wf, State.reset]

end Sys2Proof.Laws
end

