-- ==== Sys2Proof/Laws/State.lean ====
section
/-! SUPPORT. One lemma per field per update of the state, each true by rfl. -/

namespace Sys2Proof.Laws

open Sys2Proof.Machine

variable (s : State)

/-! ## setBinding -/

@[simp] theorem setBinding_bound (id : Nat) : (setBinding id s).bound = true := rfl
@[simp] theorem setBinding_tid (id : Nat) : (setBinding id s).tid = BitVec.ofNat 3 id := rfl
@[simp] theorem setBinding_pkt (id : Nat) : (setBinding id s).pkt = s.pkt := rfl
@[simp] theorem setBinding_pktValid (id : Nat) : (setBinding id s).pktValid = s.pktValid := rfl
@[simp] theorem setBinding_telValid (id : Nat) : (setBinding id s).telValid = s.telValid := rfl
@[simp] theorem setBinding_tel (id : Nat) : (setBinding id s).tel = s.tel := rfl
@[simp] theorem setBinding_txt (id : Nat) : (setBinding id s).txt = s.txt := rfl
@[simp] theorem setBinding_txtLen (id : Nat) : (setBinding id s).txtLen = s.txtLen := rfl
@[simp] theorem setBinding_csr (id : Nat) : (setBinding id s).csr = s.csr := rfl
@[simp] theorem setBinding_csrValid (id : Nat) : (setBinding id s).csrValid = s.csrValid := rfl
@[simp] theorem setBinding_status (id : Nat) : (setBinding id s).status = s.status := rfl
@[simp] theorem setBinding_cause (id : Nat) : (setBinding id s).cause = s.cause := rfl
@[simp] theorem setBinding_ibuf (id : Nat) : (setBinding id s).ibuf = s.ibuf := rfl
@[simp] theorem setBinding_ibufLen (id : Nat) : (setBinding id s).ibufLen = s.ibufLen := rfl
@[simp] theorem setBinding_ibufEpoch (id : Nat) : (setBinding id s).ibufEpoch = s.ibufEpoch := rfl
@[simp] theorem setBinding_stream (id : Nat) : (setBinding id s).stream = s.stream := rfl
@[simp] theorem setBinding_rsp (id : Nat) : (setBinding id s).rsp = s.rsp := rfl

/-! ## writePacket -/

@[simp] theorem writePacket_bound (p : Vector Byte 44) : (writePacket p s).bound = s.bound := rfl
@[simp] theorem writePacket_tid (p : Vector Byte 44) : (writePacket p s).tid = s.tid := rfl
@[simp] theorem writePacket_pkt (p : Vector Byte 44) : (writePacket p s).pkt = p := rfl
@[simp] theorem writePacket_pktValid (p : Vector Byte 44) : (writePacket p s).pktValid = true := rfl
@[simp] theorem writePacket_telValid (p : Vector Byte 44) : (writePacket p s).telValid = s.telValid := rfl
@[simp] theorem writePacket_tel (p : Vector Byte 44) : (writePacket p s).tel = s.tel := rfl
@[simp] theorem writePacket_txt (p : Vector Byte 44) : (writePacket p s).txt = s.txt := rfl
@[simp] theorem writePacket_txtLen (p : Vector Byte 44) : (writePacket p s).txtLen = s.txtLen := rfl
@[simp] theorem writePacket_csr (p : Vector Byte 44) : (writePacket p s).csr = s.csr := rfl
@[simp] theorem writePacket_csrValid (p : Vector Byte 44) : (writePacket p s).csrValid = s.csrValid := rfl
@[simp] theorem writePacket_status (p : Vector Byte 44) : (writePacket p s).status = s.status := rfl
@[simp] theorem writePacket_cause (p : Vector Byte 44) : (writePacket p s).cause = s.cause := rfl
@[simp] theorem writePacket_ibuf (p : Vector Byte 44) : (writePacket p s).ibuf = s.ibuf := rfl
@[simp] theorem writePacket_ibufLen (p : Vector Byte 44) : (writePacket p s).ibufLen = s.ibufLen := rfl
@[simp] theorem writePacket_ibufEpoch (p : Vector Byte 44) : (writePacket p s).ibufEpoch = s.ibufEpoch := rfl
@[simp] theorem writePacket_stream (p : Vector Byte 44) : (writePacket p s).stream = s.stream := rfl
@[simp] theorem writePacket_rsp (p : Vector Byte 44) : (writePacket p s).rsp = s.rsp := rfl

/-! ## clearPacket -/

@[simp] theorem clearPacket_bound : (clearPacket s).bound = s.bound := rfl
@[simp] theorem clearPacket_tid : (clearPacket s).tid = s.tid := rfl
@[simp] theorem clearPacket_pkt : (clearPacket s).pkt = Vector.replicate 44 0#8 := rfl
@[simp] theorem clearPacket_pktValid : (clearPacket s).pktValid = false := rfl
@[simp] theorem clearPacket_telValid : (clearPacket s).telValid = s.telValid := rfl
@[simp] theorem clearPacket_tel : (clearPacket s).tel = s.tel := rfl
@[simp] theorem clearPacket_txt : (clearPacket s).txt = s.txt := rfl
@[simp] theorem clearPacket_txtLen : (clearPacket s).txtLen = s.txtLen := rfl
@[simp] theorem clearPacket_csr : (clearPacket s).csr = s.csr := rfl
@[simp] theorem clearPacket_csrValid : (clearPacket s).csrValid = s.csrValid := rfl
@[simp] theorem clearPacket_status : (clearPacket s).status = s.status := rfl
@[simp] theorem clearPacket_cause : (clearPacket s).cause = s.cause := rfl
@[simp] theorem clearPacket_ibuf : (clearPacket s).ibuf = s.ibuf := rfl
@[simp] theorem clearPacket_ibufLen : (clearPacket s).ibufLen = s.ibufLen := rfl
@[simp] theorem clearPacket_ibufEpoch : (clearPacket s).ibufEpoch = s.ibufEpoch := rfl
@[simp] theorem clearPacket_stream : (clearPacket s).stream = s.stream := rfl
@[simp] theorem clearPacket_rsp : (clearPacket s).rsp = s.rsp := rfl

/-! ## writeTelemetry -/

@[simp] theorem writeTelemetry_bound (r : TelRegs) : (writeTelemetry r s).bound = s.bound := rfl
@[simp] theorem writeTelemetry_tid (r : TelRegs) : (writeTelemetry r s).tid = s.tid := rfl
@[simp] theorem writeTelemetry_pkt (r : TelRegs) : (writeTelemetry r s).pkt = s.pkt := rfl
@[simp] theorem writeTelemetry_pktValid (r : TelRegs) : (writeTelemetry r s).pktValid = s.pktValid := rfl
@[simp] theorem writeTelemetry_telValid (r : TelRegs) : (writeTelemetry r s).telValid = true := rfl
@[simp] theorem writeTelemetry_tel (r : TelRegs) : (writeTelemetry r s).tel = r := rfl
@[simp] theorem writeTelemetry_txt (r : TelRegs) : (writeTelemetry r s).txt = Vector.replicate 32 0#8 := rfl
@[simp] theorem writeTelemetry_txtLen (r : TelRegs) : (writeTelemetry r s).txtLen = 0#6 := rfl
@[simp] theorem writeTelemetry_csr (r : TelRegs) : (writeTelemetry r s).csr = s.csr := rfl
@[simp] theorem writeTelemetry_csrValid (r : TelRegs) : (writeTelemetry r s).csrValid = s.csrValid := rfl
@[simp] theorem writeTelemetry_status (r : TelRegs) : (writeTelemetry r s).status = s.status := rfl
@[simp] theorem writeTelemetry_cause (r : TelRegs) : (writeTelemetry r s).cause = s.cause := rfl
@[simp] theorem writeTelemetry_ibuf (r : TelRegs) : (writeTelemetry r s).ibuf = s.ibuf := rfl
@[simp] theorem writeTelemetry_ibufLen (r : TelRegs) : (writeTelemetry r s).ibufLen = s.ibufLen := rfl
@[simp] theorem writeTelemetry_ibufEpoch (r : TelRegs) : (writeTelemetry r s).ibufEpoch = s.ibufEpoch := rfl
@[simp] theorem writeTelemetry_stream (r : TelRegs) : (writeTelemetry r s).stream = s.stream := rfl
@[simp] theorem writeTelemetry_rsp (r : TelRegs) : (writeTelemetry r s).rsp = s.rsp := rfl

/-! ## writeText -/

@[simp] theorem writeText_bound (l : List Byte) : (writeText l s).bound = s.bound := rfl
@[simp] theorem writeText_tid (l : List Byte) : (writeText l s).tid = s.tid := rfl
@[simp] theorem writeText_pkt (l : List Byte) : (writeText l s).pkt = s.pkt := rfl
@[simp] theorem writeText_pktValid (l : List Byte) : (writeText l s).pktValid = s.pktValid := rfl
@[simp] theorem writeText_telValid (l : List Byte) : (writeText l s).telValid = false := rfl
@[simp] theorem writeText_tel (l : List Byte) : (writeText l s).tel = TelRegs.zero := rfl
@[simp] theorem writeText_txt (l : List Byte) : (writeText l s).txt = padText l := rfl
@[simp] theorem writeText_txtLen (l : List Byte) : (writeText l s).txtLen = BitVec.ofNat 6 l.length := rfl
@[simp] theorem writeText_csr (l : List Byte) : (writeText l s).csr = s.csr := rfl
@[simp] theorem writeText_csrValid (l : List Byte) : (writeText l s).csrValid = s.csrValid := rfl
@[simp] theorem writeText_status (l : List Byte) : (writeText l s).status = s.status := rfl
@[simp] theorem writeText_cause (l : List Byte) : (writeText l s).cause = s.cause := rfl
@[simp] theorem writeText_ibuf (l : List Byte) : (writeText l s).ibuf = s.ibuf := rfl
@[simp] theorem writeText_ibufLen (l : List Byte) : (writeText l s).ibufLen = s.ibufLen := rfl
@[simp] theorem writeText_ibufEpoch (l : List Byte) : (writeText l s).ibufEpoch = s.ibufEpoch := rfl
@[simp] theorem writeText_stream (l : List Byte) : (writeText l s).stream = s.stream := rfl
@[simp] theorem writeText_rsp (l : List Byte) : (writeText l s).rsp = s.rsp := rfl

/-! ## clearReply -/

@[simp] theorem clearReply_bound : (clearReply s).bound = s.bound := rfl
@[simp] theorem clearReply_tid : (clearReply s).tid = s.tid := rfl
@[simp] theorem clearReply_pkt : (clearReply s).pkt = s.pkt := rfl
@[simp] theorem clearReply_pktValid : (clearReply s).pktValid = s.pktValid := rfl
@[simp] theorem clearReply_telValid : (clearReply s).telValid = false := rfl
@[simp] theorem clearReply_tel : (clearReply s).tel = TelRegs.zero := rfl
@[simp] theorem clearReply_txt : (clearReply s).txt = Vector.replicate 32 0#8 := rfl
@[simp] theorem clearReply_txtLen : (clearReply s).txtLen = 0#6 := rfl
@[simp] theorem clearReply_csr : (clearReply s).csr = s.csr := rfl
@[simp] theorem clearReply_csrValid : (clearReply s).csrValid = s.csrValid := rfl
@[simp] theorem clearReply_status : (clearReply s).status = s.status := rfl
@[simp] theorem clearReply_cause : (clearReply s).cause = s.cause := rfl
@[simp] theorem clearReply_ibuf : (clearReply s).ibuf = s.ibuf := rfl
@[simp] theorem clearReply_ibufLen : (clearReply s).ibufLen = s.ibufLen := rfl
@[simp] theorem clearReply_ibufEpoch : (clearReply s).ibufEpoch = s.ibufEpoch := rfl
@[simp] theorem clearReply_stream : (clearReply s).stream = s.stream := rfl
@[simp] theorem clearReply_rsp : (clearReply s).rsp = s.rsp := rfl

/-! ## writeChecksum -/

@[simp] theorem writeChecksum_bound (b : Byte) : (writeChecksum b s).bound = s.bound := rfl
@[simp] theorem writeChecksum_tid (b : Byte) : (writeChecksum b s).tid = s.tid := rfl
@[simp] theorem writeChecksum_pkt (b : Byte) : (writeChecksum b s).pkt = s.pkt := rfl
@[simp] theorem writeChecksum_pktValid (b : Byte) : (writeChecksum b s).pktValid = s.pktValid := rfl
@[simp] theorem writeChecksum_telValid (b : Byte) : (writeChecksum b s).telValid = s.telValid := rfl
@[simp] theorem writeChecksum_tel (b : Byte) : (writeChecksum b s).tel = s.tel := rfl
@[simp] theorem writeChecksum_txt (b : Byte) : (writeChecksum b s).txt = s.txt := rfl
@[simp] theorem writeChecksum_txtLen (b : Byte) : (writeChecksum b s).txtLen = s.txtLen := rfl
@[simp] theorem writeChecksum_csr (b : Byte) : (writeChecksum b s).csr = b := rfl
@[simp] theorem writeChecksum_csrValid (b : Byte) : (writeChecksum b s).csrValid = true := rfl
@[simp] theorem writeChecksum_status (b : Byte) : (writeChecksum b s).status = s.status := rfl
@[simp] theorem writeChecksum_cause (b : Byte) : (writeChecksum b s).cause = s.cause := rfl
@[simp] theorem writeChecksum_ibuf (b : Byte) : (writeChecksum b s).ibuf = s.ibuf := rfl
@[simp] theorem writeChecksum_ibufLen (b : Byte) : (writeChecksum b s).ibufLen = s.ibufLen := rfl
@[simp] theorem writeChecksum_ibufEpoch (b : Byte) : (writeChecksum b s).ibufEpoch = s.ibufEpoch := rfl
@[simp] theorem writeChecksum_stream (b : Byte) : (writeChecksum b s).stream = s.stream := rfl
@[simp] theorem writeChecksum_rsp (b : Byte) : (writeChecksum b s).rsp = s.rsp := rfl

/-! ## clearChecksum -/

@[simp] theorem clearChecksum_bound : (clearChecksum s).bound = s.bound := rfl
@[simp] theorem clearChecksum_tid : (clearChecksum s).tid = s.tid := rfl
@[simp] theorem clearChecksum_pkt : (clearChecksum s).pkt = s.pkt := rfl
@[simp] theorem clearChecksum_pktValid : (clearChecksum s).pktValid = s.pktValid := rfl
@[simp] theorem clearChecksum_telValid : (clearChecksum s).telValid = s.telValid := rfl
@[simp] theorem clearChecksum_tel : (clearChecksum s).tel = s.tel := rfl
@[simp] theorem clearChecksum_txt : (clearChecksum s).txt = s.txt := rfl
@[simp] theorem clearChecksum_txtLen : (clearChecksum s).txtLen = s.txtLen := rfl
@[simp] theorem clearChecksum_csr : (clearChecksum s).csr = 0#8 := rfl
@[simp] theorem clearChecksum_csrValid : (clearChecksum s).csrValid = false := rfl
@[simp] theorem clearChecksum_status : (clearChecksum s).status = s.status := rfl
@[simp] theorem clearChecksum_cause : (clearChecksum s).cause = s.cause := rfl
@[simp] theorem clearChecksum_ibuf : (clearChecksum s).ibuf = s.ibuf := rfl
@[simp] theorem clearChecksum_ibufLen : (clearChecksum s).ibufLen = s.ibufLen := rfl
@[simp] theorem clearChecksum_ibufEpoch : (clearChecksum s).ibufEpoch = s.ibufEpoch := rfl
@[simp] theorem clearChecksum_stream : (clearChecksum s).stream = s.stream := rfl
@[simp] theorem clearChecksum_rsp : (clearChecksum s).rsp = s.rsp := rfl

/-! ## respond -/

@[simp] theorem respond_bound (st : Status) (c : Cause) : (respond st c s).bound = s.bound := rfl
@[simp] theorem respond_tid (st : Status) (c : Cause) : (respond st c s).tid = s.tid := rfl
@[simp] theorem respond_pkt (st : Status) (c : Cause) : (respond st c s).pkt = s.pkt := rfl
@[simp] theorem respond_pktValid (st : Status) (c : Cause) : (respond st c s).pktValid = s.pktValid := rfl
@[simp] theorem respond_telValid (st : Status) (c : Cause) : (respond st c s).telValid = s.telValid := rfl
@[simp] theorem respond_tel (st : Status) (c : Cause) : (respond st c s).tel = s.tel := rfl
@[simp] theorem respond_txt (st : Status) (c : Cause) : (respond st c s).txt = s.txt := rfl
@[simp] theorem respond_txtLen (st : Status) (c : Cause) : (respond st c s).txtLen = s.txtLen := rfl
@[simp] theorem respond_csr (st : Status) (c : Cause) : (respond st c s).csr = s.csr := rfl
@[simp] theorem respond_csrValid (st : Status) (c : Cause) : (respond st c s).csrValid = s.csrValid := rfl
@[simp] theorem respond_status (st : Status) (c : Cause) : (respond st c s).status = statusCode st := rfl
@[simp] theorem respond_cause (st : Status) (c : Cause) : (respond st c s).cause = causeCode c := rfl
@[simp] theorem respond_ibuf (st : Status) (c : Cause) : (respond st c s).ibuf = s.ibuf := rfl
@[simp] theorem respond_ibufLen (st : Status) (c : Cause) : (respond st c s).ibufLen = s.ibufLen := rfl
@[simp] theorem respond_ibufEpoch (st : Status) (c : Cause) : (respond st c s).ibufEpoch = s.ibufEpoch := rfl
@[simp] theorem respond_stream (st : Status) (c : Cause) : (respond st c s).stream = s.stream := rfl
@[simp] theorem respond_rsp (st : Status) (c : Cause) : (respond st c s).rsp = some ⟨statusCode st, causeCode c⟩ := rfl

/-! ## silent -/

@[simp] theorem silent_bound : (silent s).bound = s.bound := rfl
@[simp] theorem silent_tid : (silent s).tid = s.tid := rfl
@[simp] theorem silent_pkt : (silent s).pkt = s.pkt := rfl
@[simp] theorem silent_pktValid : (silent s).pktValid = s.pktValid := rfl
@[simp] theorem silent_telValid : (silent s).telValid = s.telValid := rfl
@[simp] theorem silent_tel : (silent s).tel = s.tel := rfl
@[simp] theorem silent_txt : (silent s).txt = s.txt := rfl
@[simp] theorem silent_txtLen : (silent s).txtLen = s.txtLen := rfl
@[simp] theorem silent_csr : (silent s).csr = s.csr := rfl
@[simp] theorem silent_csrValid : (silent s).csrValid = s.csrValid := rfl
@[simp] theorem silent_status : (silent s).status = s.status := rfl
@[simp] theorem silent_cause : (silent s).cause = s.cause := rfl
@[simp] theorem silent_ibuf : (silent s).ibuf = s.ibuf := rfl
@[simp] theorem silent_ibufLen : (silent s).ibufLen = s.ibufLen := rfl
@[simp] theorem silent_ibufEpoch : (silent s).ibufEpoch = s.ibufEpoch := rfl
@[simp] theorem silent_stream : (silent s).stream = s.stream := rfl
@[simp] theorem silent_rsp : (silent s).rsp = none := rfl

/-! ## fillInput -/

@[simp] theorem fillInput_bound (cfg : Config) (l : List Byte) : (fillInput cfg l s).bound = s.bound := rfl
@[simp] theorem fillInput_tid (cfg : Config) (l : List Byte) : (fillInput cfg l s).tid = s.tid := rfl
@[simp] theorem fillInput_pkt (cfg : Config) (l : List Byte) : (fillInput cfg l s).pkt = s.pkt := rfl
@[simp] theorem fillInput_pktValid (cfg : Config) (l : List Byte) : (fillInput cfg l s).pktValid = s.pktValid := rfl
@[simp] theorem fillInput_telValid (cfg : Config) (l : List Byte) : (fillInput cfg l s).telValid = s.telValid := rfl
@[simp] theorem fillInput_tel (cfg : Config) (l : List Byte) : (fillInput cfg l s).tel = s.tel := rfl
@[simp] theorem fillInput_txt (cfg : Config) (l : List Byte) : (fillInput cfg l s).txt = s.txt := rfl
@[simp] theorem fillInput_txtLen (cfg : Config) (l : List Byte) : (fillInput cfg l s).txtLen = s.txtLen := rfl
@[simp] theorem fillInput_csr (cfg : Config) (l : List Byte) : (fillInput cfg l s).csr = s.csr := rfl
@[simp] theorem fillInput_csrValid (cfg : Config) (l : List Byte) : (fillInput cfg l s).csrValid = s.csrValid := rfl
@[simp] theorem fillInput_status (cfg : Config) (l : List Byte) : (fillInput cfg l s).status = s.status := rfl
@[simp] theorem fillInput_cause (cfg : Config) (l : List Byte) : (fillInput cfg l s).cause = s.cause := rfl
@[simp] theorem fillInput_ibuf (cfg : Config) (l : List Byte) : (fillInput cfg l s).ibuf = Memory.writeList s.ibuf 0 (l.take cfg.frameMax) := rfl
@[simp] theorem fillInput_ibufLen (cfg : Config) (l : List Byte) : (fillInput cfg l s).ibufLen = (l.take cfg.frameMax).length := rfl
@[simp] theorem fillInput_ibufEpoch (cfg : Config) (l : List Byte) : (fillInput cfg l s).ibufEpoch = s.ibufEpoch := rfl
@[simp] theorem fillInput_stream (cfg : Config) (l : List Byte) : (fillInput cfg l s).stream = s.stream := rfl
@[simp] theorem fillInput_rsp (cfg : Config) (l : List Byte) : (fillInput cfg l s).rsp = s.rsp := rfl

/-! ## putByte -/

@[simp] theorem putByte_bound (off : Nat) (b : Byte) : (putByte off b s).bound = s.bound := rfl
@[simp] theorem putByte_tid (off : Nat) (b : Byte) : (putByte off b s).tid = s.tid := rfl
@[simp] theorem putByte_pkt (off : Nat) (b : Byte) : (putByte off b s).pkt = s.pkt := rfl
@[simp] theorem putByte_pktValid (off : Nat) (b : Byte) : (putByte off b s).pktValid = s.pktValid := rfl
@[simp] theorem putByte_telValid (off : Nat) (b : Byte) : (putByte off b s).telValid = s.telValid := rfl
@[simp] theorem putByte_tel (off : Nat) (b : Byte) : (putByte off b s).tel = s.tel := rfl
@[simp] theorem putByte_txt (off : Nat) (b : Byte) : (putByte off b s).txt = s.txt := rfl
@[simp] theorem putByte_txtLen (off : Nat) (b : Byte) : (putByte off b s).txtLen = s.txtLen := rfl
@[simp] theorem putByte_csr (off : Nat) (b : Byte) : (putByte off b s).csr = s.csr := rfl
@[simp] theorem putByte_csrValid (off : Nat) (b : Byte) : (putByte off b s).csrValid = s.csrValid := rfl
@[simp] theorem putByte_status (off : Nat) (b : Byte) : (putByte off b s).status = s.status := rfl
@[simp] theorem putByte_cause (off : Nat) (b : Byte) : (putByte off b s).cause = s.cause := rfl
@[simp] theorem putByte_ibuf (off : Nat) (b : Byte) : (putByte off b s).ibuf = Memory.write s.ibuf off b := rfl
@[simp] theorem putByte_ibufLen (off : Nat) (b : Byte) : (putByte off b s).ibufLen = s.ibufLen := rfl
@[simp] theorem putByte_ibufEpoch (off : Nat) (b : Byte) : (putByte off b s).ibufEpoch = s.ibufEpoch := rfl
@[simp] theorem putByte_stream (off : Nat) (b : Byte) : (putByte off b s).stream = s.stream := rfl
@[simp] theorem putByte_rsp (off : Nat) (b : Byte) : (putByte off b s).rsp = s.rsp := rfl

/-! ## setLength -/

@[simp] theorem setLength_bound (n : Nat) : (setLength n s).bound = s.bound := rfl
@[simp] theorem setLength_tid (n : Nat) : (setLength n s).tid = s.tid := rfl
@[simp] theorem setLength_pkt (n : Nat) : (setLength n s).pkt = s.pkt := rfl
@[simp] theorem setLength_pktValid (n : Nat) : (setLength n s).pktValid = s.pktValid := rfl
@[simp] theorem setLength_telValid (n : Nat) : (setLength n s).telValid = s.telValid := rfl
@[simp] theorem setLength_tel (n : Nat) : (setLength n s).tel = s.tel := rfl
@[simp] theorem setLength_txt (n : Nat) : (setLength n s).txt = s.txt := rfl
@[simp] theorem setLength_txtLen (n : Nat) : (setLength n s).txtLen = s.txtLen := rfl
@[simp] theorem setLength_csr (n : Nat) : (setLength n s).csr = s.csr := rfl
@[simp] theorem setLength_csrValid (n : Nat) : (setLength n s).csrValid = s.csrValid := rfl
@[simp] theorem setLength_status (n : Nat) : (setLength n s).status = s.status := rfl
@[simp] theorem setLength_cause (n : Nat) : (setLength n s).cause = s.cause := rfl
@[simp] theorem setLength_ibuf (n : Nat) : (setLength n s).ibuf = s.ibuf := rfl
@[simp] theorem setLength_ibufLen (n : Nat) : (setLength n s).ibufLen = n := rfl
@[simp] theorem setLength_ibufEpoch (n : Nat) : (setLength n s).ibufEpoch = s.ibufEpoch := rfl
@[simp] theorem setLength_stream (n : Nat) : (setLength n s).stream = s.stream := rfl
@[simp] theorem setLength_rsp (n : Nat) : (setLength n s).rsp = s.rsp := rfl

/-! ## offerFirst -/

@[simp] theorem offerFirst_bound (req : Request) : (offerFirst req s).bound = s.bound := rfl
@[simp] theorem offerFirst_tid (req : Request) : (offerFirst req s).tid = s.tid := rfl
@[simp] theorem offerFirst_pkt (req : Request) : (offerFirst req s).pkt = s.pkt := rfl
@[simp] theorem offerFirst_pktValid (req : Request) : (offerFirst req s).pktValid = s.pktValid := rfl
@[simp] theorem offerFirst_telValid (req : Request) : (offerFirst req s).telValid = s.telValid := rfl
@[simp] theorem offerFirst_tel (req : Request) : (offerFirst req s).tel = s.tel := rfl
@[simp] theorem offerFirst_txt (req : Request) : (offerFirst req s).txt = s.txt := rfl
@[simp] theorem offerFirst_txtLen (req : Request) : (offerFirst req s).txtLen = s.txtLen := rfl
@[simp] theorem offerFirst_csr (req : Request) : (offerFirst req s).csr = s.csr := rfl
@[simp] theorem offerFirst_csrValid (req : Request) : (offerFirst req s).csrValid = s.csrValid := rfl
@[simp] theorem offerFirst_status (req : Request) : (offerFirst req s).status = s.status := rfl
@[simp] theorem offerFirst_cause (req : Request) : (offerFirst req s).cause = s.cause := rfl
@[simp] theorem offerFirst_ibuf (req : Request) : (offerFirst req s).ibuf = s.ibuf := rfl
@[simp] theorem offerFirst_ibufLen (req : Request) : (offerFirst req s).ibufLen = s.ibufLen := rfl
@[simp] theorem offerFirst_ibufEpoch (req : Request) : (offerFirst req s).ibufEpoch = s.ibufEpoch := rfl
@[simp] theorem offerFirst_stream (req : Request) : (offerFirst req s).stream = .request req :: s.stream := rfl
@[simp] theorem offerFirst_rsp (req : Request) : (offerFirst req s).rsp = s.rsp := rfl

/-! ## applyReset: every register at its reset value (10_state.md R34) -/

@[simp] theorem applyReset_bound : (applyReset s).bound = State.reset.bound := rfl
@[simp] theorem applyReset_tid : (applyReset s).tid = State.reset.tid := rfl
@[simp] theorem applyReset_pkt : (applyReset s).pkt = State.reset.pkt := rfl
@[simp] theorem applyReset_pktValid : (applyReset s).pktValid = State.reset.pktValid := rfl
@[simp] theorem applyReset_telValid : (applyReset s).telValid = State.reset.telValid := rfl
@[simp] theorem applyReset_tel : (applyReset s).tel = State.reset.tel := rfl
@[simp] theorem applyReset_txt : (applyReset s).txt = State.reset.txt := rfl
@[simp] theorem applyReset_txtLen : (applyReset s).txtLen = State.reset.txtLen := rfl
@[simp] theorem applyReset_csr : (applyReset s).csr = State.reset.csr := rfl
@[simp] theorem applyReset_csrValid : (applyReset s).csrValid = State.reset.csrValid := rfl
@[simp] theorem applyReset_status : (applyReset s).status = State.reset.status := rfl
@[simp] theorem applyReset_cause : (applyReset s).cause = State.reset.cause := rfl
@[simp] theorem applyReset_ibuf : (applyReset s).ibuf = State.reset.ibuf := rfl
@[simp] theorem applyReset_ibufLen : (applyReset s).ibufLen = State.reset.ibufLen := rfl
@[simp] theorem applyReset_ibufEpoch : (applyReset s).ibufEpoch = s.ibufEpoch + 1 := rfl
@[simp] theorem applyReset_stream : (applyReset s).stream = s.stream := rfl
@[simp] theorem applyReset_rsp : (applyReset s).rsp = State.reset.rsp := rfl

end Sys2Proof.Laws
end

