-- ==== Sys2Proof/Laws/Ops.lean ====
section
/-! SUPPORT. What each shared operation does, said once: raising an outcome, reading bytes, writing packet bytes. -/

namespace Sys2Proof.Laws

open Sys2Proof.Machine

/-! ## raise (60_exceptions.md R200) -/

section
variable (op : Operation) (st : Status) (c : Cause) (s : State)

@[simp] theorem raise_status : (raise op st c s).status = statusCode st := rfl
@[simp] theorem raise_cause : (raise op st c s).cause = causeCode c := rfl
@[simp] theorem raise_rsp : (raise op st c s).rsp = some ⟨statusCode st, causeCode c⟩ := rfl
@[simp] theorem raise_bound : (raise op st c s).bound = s.bound := by cases op <;> rfl
@[simp] theorem raise_tid : (raise op st c s).tid = s.tid := by cases op <;> rfl
@[simp] theorem raise_ibuf : (raise op st c s).ibuf = s.ibuf := by cases op <;> rfl
@[simp] theorem raise_ibufLen : (raise op st c s).ibufLen = s.ibufLen := by cases op <;> rfl
@[simp] theorem raise_ibufEpoch : (raise op st c s).ibufEpoch = s.ibufEpoch := by cases op <;> rfl
@[simp] theorem raise_stream : (raise op st c s).stream = s.stream := by cases op <;> rfl

/-- Each operation's failure clears its own unit's results and no other's. -/
theorem raise_eq : raise op st c s = respond st c (match op with
    | .bind => s
    | .encode => clearPacket s
    | .decode => clearReply s
    | .csum => clearChecksum s) := by cases op <;> rfl

end

/-! ## Reading bytes -/

@[simp] theorem byteAt_pkt (s : State) (off : Nat) : byteAt s .pkt off = bufferByte s.pkt off := rfl
@[simp] theorem byteAt_txt (s : State) (off : Nat) : byteAt s .txt off = bufferByte s.txt off := rfl

/-- A byte of `IBUF` depends on the buffer and the epoch only. -/
theorem byteAt_ibuf_congr {s t : State} (hb : t.ibuf = s.ibuf) (he : t.ibufEpoch = s.ibufEpoch) (off : Nat) :
    byteAt t .ibuf off = byteAt s .ibuf off := by simp [byteAt, hb, he]

@[simp] theorem memRead_length (s : State) (sp : Space) (off n : Nat) : (memRead s sp off n).length = n := by
  simp [memRead]

/-- The `i`-th byte of a read. -/
theorem memRead_getElem? (s : State) (sp : Space) (off n : Nat) {i : Nat} (h : i < n) :
    (memRead s sp off n)[i]? = some (byteAt s sp (off + i)) := by
  simp [memRead, h]

/-- A read of `IBUF` depends on the buffer and the epoch only. -/
theorem memRead_ibuf_congr {s t : State} (hb : t.ibuf = s.ibuf) (he : t.ibufEpoch = s.ibufEpoch) (off n : Nat) :
    memRead t .ibuf off n = memRead s .ibuf off n := by
  simp [memRead, byteAt_ibuf_congr hb he]

/-- Byte `i` of the reply frame, for an offset below `IBUF_LEN`. -/
theorem frameByte_replyFrame (s : State) {i : Nat} (h : i < s.ibufLen) :
    frameByte (replyFrame s) i = byteAt s .ibuf i := by
  simp [frameByte, replyFrame, memRead_getElem? s .ibuf 0 s.ibufLen h]

@[simp] theorem replyFrame_length (s : State) : (replyFrame s).length = s.ibufLen := by simp [replyFrame]

@[simp] theorem checksumBody_length (s : State) : (checksumBody s).length = 43 := by simp [checksumBody, csumSpan]

/-! ## Packet bytes -/

/-- A byte of an all-zero buffer. -/
@[simp] theorem bufferByte_replicate (n i : Nat) : bufferByte (Vector.replicate n 0#8) i = 0#8 := by
  simp only [bufferByte, Vector.getElem?_replicate]
  split <;> rfl

/-- Writing one packet byte and reading any. -/
theorem bufferByte_setByte (p : Vector Byte 44) (i j : Nat) (b : Byte) :
    bufferByte (setByte p i b) j = if j = i ∧ i < 44 then b else bufferByte p j := by
  simp only [bufferByte, setByte, Vector.getElem?_setIfInBounds]
  split
  · rename_i h
    subst h
    split
    · simp [*]
    · rename_i h
      simp [h]
  · rename_i h
    simp [Ne.symm h]

/-- A byte of the text buffer after a record is written. -/
theorem bufferByte_padText (l : List Byte) {i : Nat} (h : i < 32) : bufferByte (padText l) i = l[i]?.getD 0#8 := by
  simp [bufferByte, padText, h]

end Sys2Proof.Laws
end

