-- ==== Sys2Proof/Laws/PerInstr.lean ====
section
/-! SUPPORT. Statements made instruction by instruction: the encoder leaves every reserved bit 0 (30_encoding.md R76,
R77), and puts the operation code at bits 39:38 (R70). -/

namespace Sys2Proof.Laws.ReservedZero

/-- The encoder sets no reserved bit. -/
def Statement (i : Instr) : Prop := encodeRequest i &&& definedBits (encodeRequest i) = encodeRequest i

theorem bind (id : Nat) : Statement (.bind id) := by
  simp only [Statement, encodeRequest]
  generalize BitVec.ofNat 8 id = b
  revert b
  decide

theorem encode (rpmOk : Bool) (rpm : Int) (dir : DirField) (mode : Mode) :
    Statement (.encode rpmOk rpm dir mode) := by
  have hmask : definedBits (encodeRequest (.encode rpmOk rpm dir mode)) = 0xFCFFFFFFFF#40 := by
    simp only [definedBits, encodeRequest, BitVec.getLsbD_append]
    simp
  rw [Statement, hmask]
  apply BitVec.eq_of_getLsbD_eq
  intro i hi
  rw [BitVec.getLsbD_and]
  interval_cases i <;> simp only [encodeRequest, BitVec.getLsbD_append] <;> simp

theorem decode (form : Form) : Statement (.decode form) := by
  cases form <;> simp [Statement, encodeRequest, definedBits, bitOfForm]

theorem csum : Statement .csum := by simp [Statement, encodeRequest, definedBits]

end Sys2Proof.Laws.ReservedZero
end

