-- ==== Sys2Proof/Laws/Step.lean ====
section
/-! SUPPORT. What each meaning and a step can do, said once. -/

namespace Sys2Proof.Laws

open Sys2Proof.Machine

/-- The ids an encoder can be bound to (41_encoder.md R120). -/
theorem validId_iff (id : Nat) : validId id = true ↔ 1 ≤ id ∧ id ≤ 7 := by
  simp only [validId, Bool.and_eq_true, decide_eq_true_eq]
  exact Iff.rfl

/-- The outcomes of `BIND`, in their priority (41_encoder.md R120). -/
theorem execBind_cases (id : Nat) (s : State) :
    (s.bound = true ∧ execBind id s = .next (raise .bind .alreadyBound .noCause s)) ∨
    (s.bound = false ∧ ¬(1 ≤ id ∧ id ≤ 7) ∧ execBind id s = .next (raise .bind .invalidConfiguration .noCause s)) ∨
    (s.bound = false ∧ (1 ≤ id ∧ id ≤ 7) ∧ execBind id s = .next (respond .ok .noCause (setBinding id s))) := by
  unfold execBind
  cases hb : s.bound
  · rw [← validId_iff]
    cases validId id <;> simp
  · simp

/-- The outcomes of `ENCODE`, in their priority (41_encoder.md R123, R129). -/
theorem encodeWith_cases (cfg : Config) (rpmOk : Bool) (rpm : Int) (dir : DirField) (mode : Mode) (s : State) :
    (s.bound = false ∧ encodeWith cfg rpmOk rpm dir mode s = raise .encode .notBound .noCause s) ∨
    (s.bound = true ∧ rpmOk = false ∧ encodeWith cfg rpmOk rpm dir mode s = raise .encode .invalidCommand .rpm s) ∨
    (s.bound = true ∧ rpmOk = true ∧ recognised dir = none ∧
      encodeWith cfg rpmOk rpm dir mode s = raise .encode .invalidCommand .dir s) ∨
    (∃ d, s.bound = true ∧ rpmOk = true ∧ recognised dir = some d ∧
      encodeWith cfg rpmOk rpm dir mode s =
        respond .ok .noCause (writePacket (encodePacket cfg s.tid.toNat rpm d mode) s)) := by
  unfold encodeWith
  cases s.bound <;> cases rpmOk <;> cases dir <;> simp [recognised]

/-- The outcomes of `DECODE` (42_decoder.md R168). -/
theorem decodeWith_cases (cfg : Config) (form : Form) (s : State) :
    (s.ibufLen ≤ 19 ∧ decodeFields cfg (replyFrame s) = none ∧
      decodeWith cfg form s = raise .decode .noData .noCause s) ∨
    (∃ t, 19 < s.ibufLen ∧ decodeFields cfg (replyFrame s) = some t ∧ form = .tel ∧
      decodeWith cfg form s = respond .ok .noCause (writeTelemetry (telRegsOf cfg t) s)) ∨
    (∃ t, 19 < s.ibufLen ∧ decodeFields cfg (replyFrame s) = some t ∧ form = .txt ∧
      decodeWith cfg form s = respond .ok .noCause (writeText (render cfg t) s)) := by
  unfold decodeWith
  by_cases h : s.ibufLen < 20
  · exact .inl ⟨by omega, by simp [decodeFields, frameMin, h], by simp [decodeFields, frameMin, h]⟩
  · have : ∃ t, decodeFields cfg (replyFrame s) = some t := by simp [decodeFields, frameMin, h]
    obtain ⟨t, ht⟩ := this
    cases form
    · exact .inr (.inl ⟨t, by omega, ht, rfl, by simp [ht]⟩)
    · exact .inr (.inr ⟨t, by omega, ht, rfl, by simp [ht]⟩)

/-- The outcomes of `CSUM` (40_checksum.md R112, R113). -/
theorem execCsum_cases (s : State) :
    (s.ibufLen ≠ 43 ∧ execCsum s = .next (raise .csum .badLength .noCause s)) ∨
    (s.ibufLen = 43 ∧ execCsum s = .next (respond .ok .noCause (writeChecksum (csum (checksumBody s)) s))) := by
  unfold execCsum
  by_cases h : s.ibufLen = 43 <;> simp [csumSpan, h]

/-- What a step that answers a next state has done. -/
theorem step_cases {s t : State} (h : step s = .next t) :
    (s.stream = [] ∧ t = silent s) ∨
    ∃ a rest, s.stream = a :: rest ∧
      ((∃ req, a = .request req ∧ exec (decodeRequest req) { s with stream := rest } = .next t) ∨
       ((a = .reset ∨ ∃ req, a = .requestThenReset req) ∧ t = applyReset { s with stream := rest }) ∨
       (∃ bytes, a = .fill bytes ∧ t = silent (fillInput decidedConfig bytes { s with stream := rest })) ∨
       (∃ off b, a = .writeByte off b ∧ off < decidedConfig.frameMax ∧
         t = silent (putByte off b { s with stream := rest })) ∨
       (∃ n, a = .setLen n ∧ n ≤ decidedConfig.frameMax ∧ t = silent (setLength n { s with stream := rest }))) := by
  unfold step nextAction at h
  cases hs : s.stream with
  | nil =>
    simp only [hs, Host.Outcome.next.injEq] at h
    exact .inl ⟨rfl, h.symm⟩
  | cons a rest =>
    refine .inr ⟨a, rest, rfl, ?_⟩
    cases a <;> simp only [hs] at h
    case request req => exact .inl ⟨req, rfl, h⟩
    case requestThenReset req => simp only [Host.Outcome.next.injEq] at h; exact .inr (.inl ⟨.inr ⟨req, rfl⟩, h.symm⟩)
    case reset => simp only [Host.Outcome.next.injEq] at h; exact .inr (.inl ⟨.inl rfl, h.symm⟩)
    case fill bytes =>
      simp only [hostFill, Host.Outcome.next.injEq] at h
      exact .inr (.inr (.inl ⟨bytes, rfl, h.symm⟩))
    case writeByte off b =>
      simp only [hostWriteByte] at h
      split at h
      · rename_i hoff
        simp only [Host.Outcome.next.injEq] at h
        exact .inr (.inr (.inr (.inl ⟨off, b, rfl, hoff, h.symm⟩)))
      · simp at h
    case setLen n =>
      simp only [hostSetLen] at h
      split at h
      · rename_i hn
        simp only [Host.Outcome.next.injEq] at h
        exact .inr (.inr (.inr (.inr ⟨n, rfl, hn, h.symm⟩)))
      · simp at h

end Sys2Proof.Laws
end

