-- ==== Sys2Proof/Tests/Slice0.lean ====
section
/-! SUPPORT. Tests: expected values are those of 95_test_vectors.md (the vector is named), or a witness that the
hypotheses of a statement can be met. -/

namespace Sys2Proof.Tests

open Sys2Proof.Machine Sys2Proof.Safety

/-! ## Helpers -/

/-- A block bound to `id`, else as after reset. -/
def boundTo (id : Nat) : State := setBinding id State.reset

/-- The block after reset, its `IBUF` filled with `bytes`. -/
def filled (bytes : List Byte) : State :=
  { State.reset with ibuf := Memory.writeList [] 0 bytes, ibufLen := bytes.length }

/-- The block after reset, with these host actions to come. -/
def facing (actions : List HostAction) : State := { State.reset with stream := actions }

/-- What `f` sees in the next state, if there is one. -/
def seen {α : Type} (o : Host.Outcome State Fault Refusal) (f : State → α) : Option α :=
  match o with
  | .next t => some (f t)
  | .fault _ => none
  | .refused _ => none

/-- The outcome of an operation. -/
def codes (t : State) : BitVec 3 × BitVec 2 := (t.status, t.cause)

/-- The frame of V58. -/
def frame58 : List Byte :=
  [0x03#8, 0xDC#8, 0x05#8, 0x4E#8, 0x01#8, 0x6C#8, 0x01#8] ++ List.replicate 11 0x00#8 ++ [0x11#8, 0x00#8]

/-- The frame of V61: V58 with every uninterpreted bit changed. -/
def frame61 : List Byte :=
  [0xE3#8, 0xDC#8, 0x05#8, 0x4E#8, 0xFD#8, 0x6C#8, 0xFD#8] ++ List.replicate 11 0x5A#8 ++
    [0xF1#8, 0x77#8, 0x88#8, 0x99#8]

/-- The body of V5. -/
def body5 : List Byte := (List.range 43).map (BitVec.ofNat 8)

/-- Packet V23, bytes 0 to 42. -/
def body23 : List Byte :=
  [0x03#8, 0x00#8, 0x00#8, 0x00#8, 0x00#8, 0x24#8, 0x89#8] ++ List.replicate 26 0x00#8 ++
    [0x01#8, 0x00#8, 0x01#8, 0x00#8, 0x01#8] ++ List.replicate 5 0x00#8

/-! ## Well-formedness -/

theorem test_wf_bind_limit : (Instr.bind 255).wf = true ∧ (Instr.bind 256).wf = false := by decide

theorem test_wf_encode_upper :
    (Instr.encode true 2147483647 .forward .openLoop).wf = true ∧
    (Instr.encode true 2147483648 .forward .openLoop).wf = false := by decide

theorem test_wf_encode_lower :
    (Instr.encode true (-2147483648) .dir3 .closedLoop).wf = true ∧
    (Instr.encode true (-2147483649) .dir3 .closedLoop).wf = false := by decide

theorem test_wf_others : (Instr.decode .tel).wf = true ∧ Instr.csum.wf = true := by decide

/-! ## Decoding: words written out field by field from R71 to R74, most significant field first -/

/-- op 00, 30 reserved bits, id 3. -/
theorem test_decode_bind : decodeRequest (0b00#2 ++ 0#30 ++ 0b00000011#8) = .bind 3 := by decide

/-- op 00 with every reserved bit set (V20). -/
theorem test_decode_bind_reserved : decodeRequest 0x3FFFFFFF03#40 = .bind 3 := by decide

/-- op 01, rpm_ok 1, mode 1, dir 01, reserved 00, rpm 1500. -/
theorem test_decode_encode :
    decodeRequest (0b01#2 ++ 0b1#1 ++ 0b1#1 ++ 0b01#2 ++ 0b00#2 ++ 0b00000000000000000000010111011100#32) =
      .encode true 1500 .reverse .closedLoop := by decide

/-- op 01, rpm_ok 1, mode 0, dir 10, reserved 11, rpm -2147483648. -/
theorem test_decode_encode_sign :
    decodeRequest (0b01#2 ++ 0b1#1 ++ 0b0#1 ++ 0b10#2 ++ 0b11#2 ++ 0b10000000000000000000000000000000#32) =
      .encode true (-2147483648) .dir2 .openLoop := by decide

/-- op 10, 37 reserved bits, condensed 1. -/
theorem test_decode_decode : decodeRequest (0b10#2 ++ 0#37 ++ 0b1#1) = .decode .txt := by decide

/-- op 10 with every reserved bit set, condensed 0. -/
theorem test_decode_decode_reserved : decodeRequest (0b10#2 ++ 0x1FFFFFFFFF#37 ++ 0b0#1) = .decode .tel := by decide

/-- op 11, 38 reserved bits. -/
theorem test_decode_csum : decodeRequest (0b11#2 ++ 0#38) = .csum := by decide

/-- V12's word. -/
theorem test_decode_csum_reserved : decodeRequest 0xFFFFFFFFFF#40 = .csum := by decide

/-- The table numbers the request word as R70 does; a number that needs more bits is refused. -/
theorem test_decode_table :
    decodeTableWord 40 0x5C00000000 = some (.encode false 0 .dir3 .closedLoop) ∧
    decodeTableWord 41 0x10000000000 = none := by decide

/-- Words of section 2.7. -/
theorem test_encode_words :
    encodeRequest (.encode true (-5) .forward .openLoop) = 0x60FFFFFFFB#40 ∧
    encodeRequest (.encode true 100 .dir2 .openLoop) = 0x6800000064#40 ∧
    encodeRequest (.bind 255) = 0x00000000FF#40 ∧ encodeRequest (.decode .txt) = 0x8000000001#40 ∧
    encodeRequest .csum = 0xC000000000#40 := by decide

/-- `ENCODE NAN, DIR3, CL` of section 2.7. -/
theorem test_assemble_nan :
    lineAction (.encode none .dir3 .closedLoop) = .request 0x5C00000000#40 := by decide

/-! ## The pure functions -/

/-- V2 and V4. -/
theorem test_csum_vectors :
    csum (List.replicate 43 0xFF#8) = 0x7A#8 ∧ csum (0x5B#8 :: List.replicate 42 0x00#8) = 0x00#8 := by decide

/-- Section 2.3: the cap, one below it, and 1399. -/
theorem test_demand_vectors : demand 2200 = 51492 ∧ demand 2199 = 51469 ∧ demand 1399 = 32744 := by decide

/-- Section 2.3: both ends of the 32-bit range. -/
theorem test_clamp_ends : clamp (-2147483648) = 0 ∧ clamp 2147483647 = 2200 ∧ clamp 2201 = 2200 := by decide

/-- V25, by its non-zero bytes, and byte 0 of its slot's neighbours. -/
theorem test_packet_v25 :
    let p := encodePacket decidedConfig 7 1000 .reverse .openLoop
    bufferByte p 13 = 0x6D#8 ∧ bufferByte p 14 = 0x5B#8 ∧ bufferByte p 12 = 0x00#8 ∧ bufferByte p 15 = 0x00#8 ∧
      bufferByte p 33 = 0x01#8 ∧ bufferByte p 35 = 0x00#8 ∧ bufferByte p 43 = 0x76#8 := by decide

/-- The other reading of the flag bytes, given with V23: `FLAG_SHIFT(id)` = id - 1. -/
theorem test_packet_flag_shift :
    let p := encodePacket { decidedConfig with flagShift := fun id => id - 1 } 3 1500 .reverse .closedLoop
    bufferByte p 33 = 0x04#8 ∧ bufferByte p 35 = 0x04#8 ∧ bufferByte p 37 = 0x04#8 ∧ bufferByte p 43 = 0x61#8 := by
  decide

/-- Constants of R162. -/
theorem test_binary64_constants :
    roundTo64 ⟨1469, 10⟩ = 0x40625CCCCCCCCCCD#64 ∧
    fdiv (roundTo64 ⟨1469, 10⟩) (roundTo64 ⟨200, 1⟩) = 0x3FE7810624DD2F1B#64 ∧
    roundTo64 ⟨2458415, 10000⟩ = 0x406EBAED916872B0#64 ∧ roundTo64 ⟨59, 1⟩ = 0x404D800000000000#64 := by decide

/-- Section 2.5, rows 17 and 50. -/
theorem test_current_ports :
    cur64Binary 17#10 = 0x3FD270D0456C797E#64 ∧ cur64Binary 50#10 = 0x3FEB1E5F75270D04#64 := by decide

/-- Section 2.5, row 0: the product is +0. -/
theorem test_temperature_port_zero : tmp64Binary 0#10 = 0xC06EBAED916872B0#64 := by decide +kernel

/-- Section 2.5, rows 334 and 1023. -/
theorem test_temperature_ports :
    tmp64Binary 334#10 = 0xBFE0978D4FDF3B00#64 ∧
    tmp64Binary 1023#10 = 0x407F98D4FDF3B646#64 := by decide

/-- Section 2.5, row 59 (the port of exactly 1) and row 0 (a negative temperature): the values the patterns stand for. -/
theorem test_binary64_values :
    valueOf64 0x3FF0000000000000#64 = ⟨2 ^ 52, 2 ^ 52⟩ ∧ (valueOf64 0xC06EBAED916872B0#64).num < 0 := by decide

/-- Section 2.5: the ties at raw 17 and 977, and raw 334. -/
theorem test_round2_vectors :
    round2 decidedConfig (celsius 17#10) = -23336 ∧ round2 decidedConfig (celsius 977#10) = 47176 ∧
    round2 decidedConfig (celsius 334#10) = -52 := by decide

/-- The texts of row 334's temperature, "-0.52", and of row 1's current, "0.02". -/
theorem test_fix2_leading_zero :
    fix2 decidedConfig (celsius 334#10) = [0x2D#8, 0x30#8, 0x2E#8, 0x35#8, 0x32#8] ∧
    fix2 decidedConfig (amps 1#10) = [0x30#8, 0x2E#8, 0x30#8, 0x32#8] := by decide

/-- Section 2.4's sweep under `NONZERO`: status 1E and 01, and `LITERAL` on 01. -/
theorem test_fault_flags :
    faultFlag .nonzero 0x1E#8 leakMask = true ∧ faultFlag .nonzero 0x01#8 leakMask = false ∧
    faultFlag .literal 0x01#8 overCurrentMask = false ∧ faultFlag .literal 0xFF#8 leakMask = false := by decide

/-! ## One step of each instruction -/

/-- V14. -/
theorem test_bind_seven :
    seen (exec (.bind 7) State.reset) (fun t => (t.bound, t.tid, codes t)) = some (true, 7#3, 0#3, 0#2) := by decide

/-- V19's last step: `AlreadyBound` outranks `InvalidConfiguration`. -/
theorem test_bind_already :
    seen (exec (.bind 9) (boundTo 3)) (fun t => (t.tid, codes t)) = some (3#3, 5#3, 0#2) := by decide

/-- V23. -/
theorem test_encode_v23 :
    seen (exec (.encode true 1500 .reverse .closedLoop) (boundTo 3)) (fun t => (t.pkt.toList, t.pktValid, codes t)) =
      some (body23 ++ [0x58#8], true, 0#3, 0#2) := by decide

/-- V38 on a block that holds V23's packet: `RPM` outranks `DIR`, and the packet is gone (V40). -/
theorem test_encode_failure :
    seen (exec (.encode false 0 .dir3 .closedLoop)
        (writePacket (encodePacket decidedConfig 3 1500 .reverse .closedLoop) (boundTo 3)))
      (fun t => (t.pkt, t.pktValid, codes t)) = some (zeroPacket, false, 2#3, 1#2) := by decide

/-- V58 under `LITERAL`, with the ports of section 2.5. -/
theorem test_decode_v58 :
    seen (exec (.decode .tel) (filled frame58)) (fun t => (t.tel, t.telValid, t.txtLen)) =
      some (⟨3#5, 1500#16, .reverse, 334#10, 364#10, 0x4016A4E1A08AD8F3#64, 0x4035843958106250#64, false, false, false,
        false⟩, true, 0#6) := by decide

/-- V70's bytes. -/
theorem test_decode_v70 :
    seen (exec (.decode .txt) (filled frame58)) (fun t => (t.txt.toList, t.txtLen)) =
      some ([0x33#8, 0x2C#8, 0x31#8, 0x35#8, 0x30#8, 0x30#8, 0x2C#8, 0x31#8, 0x2C#8, 0x35#8, 0x2E#8, 0x36#8, 0x36#8,
        0x2C#8, 0x32#8, 0x31#8, 0x2E#8, 0x35#8, 0x32#8, 0x2C#8, 0x30#8, 0x2C#8, 0x30#8, 0x2C#8, 0x30#8, 0x2C#8,
        0x30#8] ++ List.replicate 5 0x00#8, 27#6) := by decide

/-- V7. -/
theorem test_csum_v7 :
    seen (exec .csum (filled body5)) (fun t => (t.csr, t.csrValid, codes t)) = some (0x2C#8, true, 0#3, 0#2) := by decide

/-- V9 on a block that holds V7's result (V11). -/
theorem test_csum_bad_length :
    seen (exec .csum (writeChecksum 0x2C#8 (filled (List.replicate 42 0x00#8)))) (fun t => (t.csr, t.csrValid, codes t)) =
      some (0x00#8, false, 6#3, 0#2) := by decide

/-- A step fetches the oldest request (V13). -/
theorem test_step_fetches :
    seen (step (State.reset.withFetchWord 40 0x0000000001)) (fun t => (t.tid, t.stream, t.rsp)) =
      some (1#3, [], some ⟨0#3, 0#2⟩) := by decide

/-- `.reset` of V38's end state: unbound again (R221). -/
theorem test_step_reset :
    seen (step { boundTo 3 with stream := [.reset, .request 0#40] }) (fun t => (t.bound, t.tid, t.stream)) =
      some (false, 0#3, [.request 0#40]) := by decide

/-! ## Witnesses: the hypotheses of each statement can be met, clause by clause -/

/-- `FRAME_MAX` is 44 and what nobody knows. -/
theorem frameMax_eq : decidedConfig.frameMax = Config.frameSpare + 44 := rfl

theorem witness_DecodeOfEncodeIsIdentity :
    (Instr.bind 255).wf = true ∧ (Instr.encode true (-2147483648) .dir3 .closedLoop).wf = true ∧
    (Instr.encode false 2147483647 .forward .openLoop).wf = true ∧ (Instr.decode .txt).wf = true ∧
    Instr.csum.wf = true := by decide

theorem witness_ReservedBitsAreIgnored :
    0x3FFFFFFF03#40 &&& definedBits 0x3FFFFFFF03#40 = 0x0000000003#40 &&& definedBits 0x0000000003#40 ∧
    0x77000005DC#40 &&& definedBits 0x77000005DC#40 = 0x74000005DC#40 &&& definedBits 0x74000005DC#40 := by decide

theorem witness_OperationCodeSelectsOperation :
    (0x3FFFFFFFFF#40).toNat / 2 ^ 38 = 0 ∧ (0x4000000000#40).toNat / 2 ^ 38 = 1 ∧
    (0x8000000000#40).toNat / 2 ^ 38 = 2 ∧ (0xC000000000#40).toNat / 2 ^ 38 = 3 := by decide

theorem witness_OperandsAreAssembledFromTheWord :
    decodeRequest 0x00000000FF#40 = .bind 255 ∧
    decodeRequest 0x607FFFFFFF#40 = .encode true 2147483647 .forward .openLoop ∧
    decodeRequest 0x6080000000#40 = .encode true (-2147483648) .forward .openLoop ∧
    decodeRequest 0x8000000001#40 = .decode .txt := by decide

theorem witness_AssembledLinesDecodeToTheirInstruction :
    lineInstr (.encode none .dir3 .closedLoop) = some (.encode false 0 .dir3 .closedLoop) ∧
    (Instr.encode false 0 .dir3 .closedLoop).wf = true ∧
    lineInstr (.bind 255) = some (.bind 255) ∧ (Instr.bind 255).wf = true := by decide

theorem witness_StepRunsTheDecodedRequest :
    (facing [.request 0xC000000000#40, .reset]).stream = .request 0xC000000000#40 :: [.reset] := by decide

theorem witness_OfferedWordRunsNext : 0xFFFFFFFFFF < 2 ^ 40 := by decide

theorem witness_StepStopsOnlyBeyondFrameMax_write :
    (facing [.writeByte decidedConfig.frameMax 0x00#8]).stream = .writeByte decidedConfig.frameMax 0x00#8 :: [] ∧
    decidedConfig.frameMax ≤ decidedConfig.frameMax ∧
    step (facing [.writeByte decidedConfig.frameMax 0x00#8]) = .fault .ibufOffset :=
  ⟨rfl, Nat.le_refl _, by simp [step, facing, nextAction, hostWriteByte]⟩

theorem witness_StepStopsOnlyBeyondFrameMax_length :
    (facing [.setLen (decidedConfig.frameMax + 1)]).stream = .setLen (decidedConfig.frameMax + 1) :: [] ∧
    decidedConfig.frameMax < decidedConfig.frameMax + 1 ∧
    step (facing [.setLen (decidedConfig.frameMax + 1)]) = .fault .ibufLength :=
  ⟨rfl, Nat.lt_succ_self _, by simp [step, facing, nextAction, hostSetLen]⟩

theorem witness_BlockWaitsForTheHost : State.reset.stream = [] := by decide

theorem witness_ResetGivesEveryRegisterItsResetValue :
    (facing [.reset]).stream = .reset :: [] ∧
    (facing [.requestThenReset 0x74000005DC#40]).stream = .requestThenReset 0x74000005DC#40 :: [] := by decide

theorem witness_FillPutsTheBytesInTheInputBuffer :
    (facing [.fill []]).stream = .fill [] :: [] ∧ (facing [.fill frame58]).stream = .fill frame58 :: [] := by decide

theorem witness_WritePortAndLengthPortChangeOneThing_write :
    (facing [.writeByte 43 0xFF#8]).stream = .writeByte 43 0xFF#8 :: [] ∧ 43 < decidedConfig.frameMax := by
  rw [frameMax_eq]; exact ⟨rfl, by omega⟩

theorem witness_WritePortAndLengthPortChangeOneThing_length :
    (facing [.setLen decidedConfig.frameMax]).stream = .setLen decidedConfig.frameMax :: [] ∧
    decidedConfig.frameMax ≤ decidedConfig.frameMax := ⟨rfl, Nat.le_refl _⟩

theorem witness_BindHasThreeOutcomes :
    State.reset.bound = false ∧ (1 ≤ 1 ∧ 1 ≤ 7) ∧ (1 ≤ 7 ∧ 7 ≤ 7) ∧ (0 < 1 ∨ 7 < 0) ∧ (8 < 1 ∨ 7 < 8) ∧
    (boundTo 7).bound = true := by decide

theorem witness_FailedBindChangesOnlyTheOutcome :
    (boundTo 3).bound = true ∧ State.reset.bound = false ∧ (0 < 1 ∨ 7 < 0) ∧ (8 < 1 ∨ 7 < 8) ∧ 1 ≤ 7 := by decide

/-- A bound block that runs `BIND 5`, and an unbound one: the step changes the binding of the second only. -/
theorem witness_BindingLastsUntilReset :
    seen (step { boundTo 3 with stream := [.request 0x0000000005#40] }) (fun t => (t.bound, t.tid)) =
      some (true, 3#3) ∧
    seen (step (facing [.request 0x0000000005#40])) (fun t => (t.bound, t.tid)) = some (true, 5#3) ∧
    ¬NextIsReset { boundTo 3 with stream := [.request 0x0000000005#40] } ∧
    ¬NextIsReset (facing [.request 0x0000000005#40]) := by
  refine ⟨by decide, by decide, ?_, ?_⟩ <;> rintro ⟨rest, h | ⟨req, h⟩⟩ <;> simp [facing] at h

theorem witness_EncodeProducesThePacket :
    (boundTo 1).bound = true ∧ 1 ≤ (boundTo 1).tid.toNat ∧ (boundTo 7).bound = true ∧ 1 ≤ (boundTo 7).tid.toNat ∧
    recognised .forward = some .forward ∧ recognised .reverse = some .reverse := by decide

theorem witness_FailedEncodeLeavesNoPacket :
    State.reset.bound = false ∧ (boundTo 7).bound = true ∧ (DirField.dir2 = .dir2 ∨ DirField.dir2 = .dir3) ∧
    (DirField.dir3 = .dir2 ∨ DirField.dir3 = .dir3) := by decide

theorem witness_ClampIsSilent :
    (0 : Int) ≤ 0 ∧ (2200 : Int) < 2201 ∧ (0 : Int) ≤ 2200 ∧ (2200 : Int) ≤ 2200 ∧ (boundTo 7).bound = true ∧
    recognised .reverse = some .reverse := by decide

theorem witness_DemandIsTheScaledFloor : 0 ≤ 2200 ∧ 2200 ≤ 2200 ∧ 1 ≤ 1 ∧ 7 ≤ 7 := by decide

theorem witness_DemandInBinary64IsTheSame : 0 ≤ 2200 ∧ 2200 ≤ 2200 := by decide

theorem witness_DemandHasTheListedProperties :
    0 ≤ 2200 ∧ 2199 ≤ 2199 ∧ (-2147483648 : Int) ≤ 2147483647 := by decide

theorem witness_PacketChecksumIsOneSum :
    (1 ≤ 1 ∧ 1 ≤ 7) ∧ (1 ≤ 7 ∧ 7 ≤ 7) ∧ (39 ≤ 39 ∧ 39 ≤ 42) ∧ (39 ≤ 42 ∧ 42 ≤ 42) := by decide

theorem witness_ClearedPacketIsNoPacket : (1 ≤ 1 ∧ 1 ≤ 7) ∧ (1 ≤ 7 ∧ 7 ≤ 7) := by decide

theorem witness_DistinctCommandsGiveDistinctPackets :
    (1 ≤ 7 ∧ 7 ≤ 7) ∧ 2200 ≤ 2200 ∧ 12 ≠ 2 * 7 - 1 ∧ 15 ≠ 2 * 7 ∧ 42 ≠ 43 ∧
    encodePacket decidedConfig 7 2200 .forward .openLoop = encodePacket decidedConfig 7 2200 .forward .openLoop := by
  decide

theorem witness_OtherPacketBytesIgnoreFlagShift :
    decidedConfig.addrByte 7 = ({ decidedConfig with flagShift := fun id => id - 1 } : Config).addrByte 7 ∧
    32 ≠ 33 ∧ 34 ≠ 33 ∧ 36 ≠ 37 ∧ 38 ≠ 37 ∧ 42 ≠ 43 := by decide

/-- Two states that agree on the binding, and two that agree on the 43 bytes of `IBUF` only. -/
theorem witness_ResultsAreFunctionsOfTheirInputs :
    (boundTo 3).bound = (writeChecksum 0x2C#8 (boundTo 3)).bound ∧
    (boundTo 3).tid = (writeChecksum 0x2C#8 (boundTo 3)).tid ∧
    seen (exec (.encode true 5 .forward .openLoop) (boundTo 3)) State.pktValid = some true ∧
    seen (exec (.encode true 5 .forward .openLoop) (writeChecksum 0x2C#8 (boundTo 3))) State.pktValid = some true ∧
    (filled body5).ibufLen = (setBinding 7 (filled body5)).ibufLen ∧
    (∀ i, i < 43 → byteAt (filled body5) .ibuf i = byteAt (setBinding 7 (filled body5)) .ibuf i) ∧
    seen (exec .csum (filled body5)) State.csrValid = some true ∧
    seen (exec .csum (setBinding 7 (filled body5))) State.csrValid = some true ∧
    seen (exec (.decode .txt) (setBinding 7 (filled body5))) State.telValid = some false := by
  refine ⟨by decide, by decide, by decide, by decide, by decide, fun i _ => rfl, by decide, by decide, by decide⟩

theorem witness_ShortFrameIsNoData :
    State.reset.ibufLen ≤ 19 ∧ (filled (List.replicate 19 0x00#8)).ibufLen ≤ 19 := by decide

theorem witness_DecodeFillsTheTelemetryRegisters : 19 < (filled frame58).ibufLen := by decide

theorem witness_ScaledPortsAreClose :
    19 < (filled (List.replicate 20 0x00#8)).ibufLen ∧ 19 < (filled (List.replicate 20 0xFF#8)).ibufLen ∧
    (0x7FEFFFFFFFFFFFFF#64).extractLsb' 52 11 ≠ 0x7FF#11 ∧ (0x0000000000000001#64).extractLsb' 52 11 ≠ 0x7FF#11 := by
  decide

theorem witness_DecodeWritesTheTextRecord :
    19 < (filled (List.replicate 20 0xFF#8)).ibufLen ∧ 19 < (filled frame61).ibufLen := by decide

/-- Frames with `tmp_raw` 0 and 364 decode, and the raws differ. -/
theorem witness_ScaledValuesAreExact :
    ((decodeFields decidedConfig (List.replicate 20 0x00#8)).map Telemetry.tmpRaw) = some 0#10 ∧
    ((decodeFields decidedConfig frame58).map Telemetry.tmpRaw) = some 364#10 ∧ (0#10 < 364#10) := by decide

theorem witness_LiteralPolicyNeverReportsAFault :
    decidedConfig.faultPolicy = .literal ∧ (decodeFields decidedConfig frame61).isSome = true ∧
    seen (exec (.decode .tel) (filled frame61)) State.telValid = some true := by decide

/-- V59's status byte under `NONZERO`. -/
theorem witness_NonzeroPolicyReportsTheStatusBits :
    let cfg : Config := { decidedConfig with faultPolicy := .nonzero }
    cfg.faultPolicy = .nonzero ∧
    (decodeFields cfg (List.replicate 18 0x00#8 ++ [0x1B#8, 0x00#8])).map
      (fun r => (r.leak, r.speedError, r.overTemp, r.overCurrent)) = some (true, true, false, true) := by decide

/-- V58 and V61: different lengths, all uninterpreted bits different. -/
theorem witness_UninterpretedBitsDoNotMatter :
    19 < (filled frame58).ibufLen ∧ 19 < (filled frame61).ibufLen ∧
    SameInterpretedBits (filled frame58) (filled frame61) ∧
    seen (exec (.decode .tel) (filled frame58)) State.telValid = some true ∧
    seen (exec (.decode .tel) (filled frame61)) State.telValid = some true := by
  refine ⟨by decide, by decide, ?_, by decide, by decide⟩
  unfold SameInterpretedBits
  decide

theorem witness_NumeralsAreDecimal :
    (dec 0).head? = some 0x30#8 ∧ 0x39#8 ∈ dec 1023459 ∧ dec 65535 = [0x36#8, 0x35#8, 0x35#8, 0x33#8, 0x35#8] := by
  decide

/-- A positive denominator, a tie and a value that is no tie. -/
theorem witness_Fix2RoundsToHundredthsAndPrintsThem :
    0 < (celsius 17#10).den ∧ (100 * (celsius 17#10).num) % (celsius 17#10).den * 2 = (celsius 17#10).den ∧
    0 < (amps 50#10).den ∧ (100 * (amps 50#10).num) % (amps 50#10).den * 2 ≠ (amps 50#10).den := by decide

theorem witness_TiesAreExactlyTheListedTemperatures :
    (17#10).toNat % 20 = 17 ∧ (1017#10).toNat % 20 = 17 ∧ (celsius 334#10).num < 0 ∧ ¬(celsius 335#10).num < 0 := by
  decide

/-- V82's frame gives the shortest record, V83's the longest. -/
theorem witness_RecordHasTwentyThreeToThirtyTwoBytes :
    (decodeFields decidedConfig (List.replicate 5 0x00#8 ++ [0x4F#8, 0x01#8] ++ List.replicate 13 0x00#8)).map
      (fun r => (render decidedConfig r).length) = some 23 ∧
    (decodeFields decidedConfig ([0x1F#8, 0xFF#8, 0xFF#8, 0x4E#8, 0x02#8] ++ List.replicate 13 0x00#8 ++
      [0x01#8, 0x00#8])).map (fun r => (render decidedConfig r).length) = some 32 := by decide

theorem witness_ChecksumIsSeedPlusBytesModulo256 :
    body5.length = 43 ∧ (List.replicate 43 0xFF#8 : List Byte).length = 43 := by decide

theorem witness_ChecksumIsAnEightBitAccumulator : ([0x5B#8, 0x00#8] : List Byte).Perm [0x00#8, 0x5B#8] := by decide

theorem witness_CsumWritesTheChecksumOfTheBody :
    (filled body5).ibufLen = 43 ∧ (filled (List.replicate 42 0x00#8)).ibufLen ≠ 43 ∧
    (filled (List.replicate 44 0x00#8)).ibufLen ≠ 43 := by decide

theorem witness_OtherLengthsAreBadLength :
    State.reset.ibufLen ≠ 43 ∧ (filled (List.replicate 42 0x00#8)).ibufLen ≠ 43 ∧
    (filled (List.replicate 44 0x00#8)).ibufLen ≠ 43 := by decide

theorem witness_HostCanCheckAPacketWithCsum :
    (boundTo 3).bound = true ∧ recognised .reverse = some .reverse ∧ 43 ≤ decidedConfig.frameMax := by
  rw [frameMax_eq]; exact ⟨by decide, by decide, by omega⟩

/-- Every outcome an operation can end with is reached. -/
theorem witness_OutcomesArePreciselyTheListed :
    seen (exec (.bind 1) (boundTo 3)) codes = some (5#3, 0#2) ∧
    seen (exec (.bind 8) State.reset) codes = some (1#3, 0#2) ∧
    seen (exec (.encode true 0 .forward .openLoop) State.reset) codes = some (4#3, 0#2) ∧
    seen (exec (.encode false 0 .dir2 .openLoop) (boundTo 1)) codes = some (2#3, 1#2) ∧
    seen (exec (.encode true 0 .dir3 .openLoop) (boundTo 1)) codes = some (2#3, 2#2) ∧
    seen (exec (.decode .tel) (filled (List.replicate 19 0x00#8))) codes = some (3#3, 0#2) ∧
    seen (exec .csum (filled (List.replicate 44 0x00#8))) codes = some (6#3, 0#2) := by decide

/-- A failure of each operation, and the results of its unit before it. -/
theorem witness_FailureClearsItsOwnUnitOnly :
    seen (exec (.bind 0) State.reset) (fun t => t.status != 0#3) = some true ∧
    seen (exec (.encode true 0 .dir2 .openLoop)
      (writePacket (encodePacket decidedConfig 3 1500 .reverse .closedLoop) (boundTo 3)))
      (fun t => (t.status != 0#3, t.pktValid)) = some (true, false) ∧
    seen (exec (.decode .txt) (writeText [0x30#8] State.reset)) (fun t => (t.status != 0#3, t.txtLen)) =
      some (true, 0#6) ∧
    seen (exec .csum (writeChecksum 0x2C#8 State.reset)) (fun t => (t.status != 0#3, t.csr)) = some (true, 0#8) := by
  decide

theorem witness_OperationsWriteTheirOwnUnitOnly :
    operationOf (.bind 1) ≠ .encode ∧ operationOf .csum ≠ .bind ∧ operationOf (.decode .tel) ≠ .csum ∧
    operationOf (.encode true 0 .forward .openLoop) ≠ .decode ∧
    seen (exec .csum (filled body5)) State.csrValid = some true := by decide

theorem witness_OperationsOtherThanBindAreIdempotent :
    operationOf .csum ≠ .bind ∧ seen (exec .csum (filled body5)) State.csr = some 0x2C#8 ∧
    operationOf (.bind 7) = .bind ∧ seen (exec (.bind 7) State.reset) State.status = some 0#3 := by decide

/-- A refused `BIND 8`, then `BIND 4` (V18). -/
theorem witness_FailuresAreNotSticky :
    seen (exec (.bind 8) State.reset) (fun t => (t.status != 0#3, seen (exec (.bind 4) t) State.tid)) =
      some (true, some 4#3) ∧
    seen (exec (.bind 4) State.reset) State.tid = some 4#3 := by decide

/-- A state no reset gives that meets the four invariants: bound to 7, with a packet, a checksum and a record. -/
def busy : State :=
  { writeText (render decidedConfig ⟨31#5, 65535#16, .reverse, 590#10, amps 590#10, 0#10, celsius 0#10, false, false,
      false, false⟩)
      (writeChecksum 0x2C#8 (writePacket (encodePacket decidedConfig 7 2200 .reverse .closedLoop) (boundTo 7))) with
    stream := [.request 0xC000000000#40] }

theorem witness_StepsKeepTheEncoderInvariant : EncoderInv busy ∧ (seen (step busy) State.status).isSome = true := by
  refine ⟨⟨by decide, by decide, fun _ => ⟨by decide, ?_, 2200, 1, 1, by decide, by decide, by decide, ?_⟩, ?_⟩, by decide⟩
  · unfold ChecksumValid; decide
  · refine ⟨by decide, by decide, by decide, ?_, by decide, by decide, by decide, ?_⟩
    · intro i _ h2
      revert i
      decide
    · rintro i (rfl | rfl | ⟨h1, h2⟩)
      · decide
      · decide
      · interval_cases i <;> decide
  · intro h; exact absurd h (by decide)

theorem witness_StepsKeepTheDecoderInvariant : DecoderInv busy ∧ (seen (step busy) State.status).isSome = true := by
  refine ⟨⟨by decide, by decide, by decide, ?_⟩, by decide⟩
  intro i h1 h2
  have h3 : busy.txtLen.toNat = 32 := by decide
  omega

theorem witness_StepsKeepTheOutcomeInvariant :
    OutcomeInv { busy with status := 2#3, cause := 2#2 } ∧
    (seen (step { busy with status := 2#3, cause := 2#2 }) State.status).isSome = true :=
  ⟨⟨by decide, by decide, by decide, by decide⟩, by decide⟩

theorem witness_StepsKeepTheInputBufferInvariant :
    InputInv { filled body5 with stream := [.writeByte 43 0xFF#8] } ∧ 43 < decidedConfig.frameMax := by
  refine ⟨⟨by decide, ?_, ?_⟩, ?_⟩
  · intro c hc
    have h : c.1 < 43 := by
      have : ∀ c ∈ (filled body5).ibuf, c.1 < 43 := by decide
      exact this c hc
    rw [frameMax_eq]; omega
  · rw [frameMax_eq]; exact Nat.le_trans (by decide : (filled body5).ibufLen ≤ 43) (by omega)
  · rw [frameMax_eq]; omega

end Sys2Proof.Tests
end

section
/-! PROOFS. The state family (10_state.md): the reset values of R34, and that no operation has a hidden input (R33). -/

namespace Sys2Proof.Proofs

open Sys2Proof.Machine Sys2Proof.Safety Sys2Proof.Laws

/-! ## What each operation answers -/

@[simp] theorem exec_encode (rpmOk : Bool) (rpm : Int) (dir : DirField) (mode : Mode) (s : State) :
    exec (.encode rpmOk rpm dir mode) s = .next (encodeWith decidedConfig rpmOk rpm dir mode s) := rfl

@[simp] theorem exec_decode (form : Form) (s : State) :
    exec (.decode form) s = .next (decodeWith decidedConfig form s) := rfl

/-- 40_checksum.md R112. -/
theorem exec_csum_of_length_eq {s : State} (h : s.ibufLen = 43) :
    exec .csum s = .next (respond .ok .noCause (writeChecksum (csum (checksumBody s)) s)) := by
  obtain ⟨hne, -⟩ | ⟨-, hs⟩ := execCsum_cases s
  · exact absurd h hne
  · exact hs

/-- 40_checksum.md R113. -/
theorem exec_csum_of_length_ne {s : State} (h : s.ibufLen ≠ 43) :
    exec .csum s = .next (raise .csum .badLength .noCause s) := by
  obtain ⟨-, hs⟩ | ⟨heq, -⟩ := execCsum_cases s
  · exact hs
  · exact absurd heq h

/-! ## Reads that see the same bytes -/

/-- A read from offset 0 depends on the bytes below its length only. -/
theorem memRead_congr_bytes {s s' : State} {sp : Space} {n : Nat}
    (hbytes : ∀ i, i < n → byteAt s sp i = byteAt s' sp i) : memRead s sp 0 n = memRead s' sp 0 n :=
  List.map_congr_left fun i hi => by
    simpa using hbytes i (List.mem_range.1 hi)

theorem replyFrame_congr {s s' : State} (hlen : s.ibufLen = s'.ibufLen)
    (hbytes : ∀ i, i < s.ibufLen → byteAt s .ibuf i = byteAt s' .ibuf i) : replyFrame s = replyFrame s' := by
  rw [replyFrame, replyFrame, ← hlen, memRead_congr_bytes hbytes]

theorem checksumBody_congr {s s' : State} (hbytes : ∀ i, i < 43 → byteAt s .ibuf i = byteAt s' .ibuf i) :
    checksumBody s = checksumBody s' :=
  memRead_congr_bytes hbytes

/-! ## Results from equal inputs (10_state.md R33) -/

/-- `ENCODE` looks at `BOUND` and `TID` only: each test of 41_encoder.md R123 falls out alike. -/
theorem encodeWith_results_congr (cfg : Config) (rpmOk : Bool) (rpm : Int) (dir : DirField) (mode : Mode)
    {s s' : State} (hbound : s.bound = s'.bound) (htid : s.tid = s'.tid) :
    let t := encodeWith cfg rpmOk rpm dir mode s
    let t' := encodeWith cfg rpmOk rpm dir mode s'
    t.pkt = t'.pkt ∧ t.pktValid = t'.pktValid ∧ t.status = t'.status ∧ t.cause = t'.cause := by
  simp only [encodeWith, hbound, htid]
  cases s'.bound with
  | false => exact ⟨rfl, rfl, rfl, rfl⟩
  | true =>
    cases rpmOk with
    | false => exact ⟨rfl, rfl, rfl, rfl⟩
    | true =>
      cases recognised dir with
      | none => exact ⟨rfl, rfl, rfl, rfl⟩
      | some d => exact ⟨rfl, rfl, rfl, rfl⟩

/-- `DECODE` looks at the reply frame only (42_decoder.md R168). -/
theorem decodeWith_results_congr (cfg : Config) (form : Form) {s s' : State} (hframe : replyFrame s = replyFrame s') :
    let t := decodeWith cfg form s
    let t' := decodeWith cfg form s'
    SameReplyResults t t' ∧ t.status = t'.status ∧ t.cause = t'.cause := by
  simp only [decodeWith, hframe]
  cases decodeFields cfg (replyFrame s') with
  | none => exact ⟨⟨rfl, rfl, rfl, rfl⟩, rfl, rfl⟩
  | some r =>
    cases form with
    | tel => exact ⟨⟨rfl, rfl, rfl, rfl⟩, rfl, rfl⟩
    | txt => exact ⟨⟨rfl, rfl, rfl, rfl⟩, rfl, rfl⟩

/-- `CSUM` looks at `IBUF_LEN`, and at the 43 bytes of its body if that is 43 (40_checksum.md R112, R113). -/
theorem csum_results_congr {s s' t t' : State} (hlen : s.ibufLen = s'.ibufLen)
    (hbytes : ∀ i, i < s.ibufLen → byteAt s .ibuf i = byteAt s' .ibuf i)
    (ht : exec .csum s = .next t) (ht' : exec .csum s' = .next t') :
    t.csr = t'.csr ∧ t.csrValid = t'.csrValid ∧ t.status = t'.status ∧ t.cause = t'.cause := by
  by_cases h43 : s.ibufLen = 43
  · have hbody : checksumBody s = checksumBody s' := checksumBody_congr (h43 ▸ hbytes)
    cases (exec_csum_of_length_eq h43).symm.trans ht
    cases (exec_csum_of_length_eq (hlen ▸ h43)).symm.trans ht'
    simp [hbody]
  · cases (exec_csum_of_length_ne h43).symm.trans ht
    cases (exec_csum_of_length_ne (hlen ▸ h43)).symm.trans ht'
    exact ⟨rfl, rfl, rfl, rfl⟩

/-! ## The obligations -/

/-- Settles O31: each operation's results are fixed by the inputs it looks at, one congruence per operation. -/
theorem resultsAreFunctionsOfTheirInputs : Obligations.ResultsAreFunctionsOfTheirInputs := by
  intro s s' t t'
  refine ⟨fun rpmOk rpm dir mode hbound htid ht ht' => ?_, fun hlen hbytes => ⟨fun form ht ht' => ?_, ?_⟩⟩
  · cases ht
    cases ht'
    exact encodeWith_results_congr decidedConfig rpmOk rpm dir mode hbound htid
  · cases ht
    cases ht'
    exact decodeWith_results_congr decidedConfig form (replyFrame_congr hlen hbytes)
  · exact csum_results_congr hlen hbytes

/-- Settles O14: the two buffers are replicated zero bytes, every other register is its literal. -/
theorem resetStateHasTheResetValues : Obligations.ResetStateHasTheResetValues :=
  ⟨rfl, rfl, fun i _ => bufferByte_replicate 44 i, rfl, rfl, rfl, fun i _ => bufferByte_replicate 32 i,
    rfl, rfl, rfl, rfl, rfl, rfl⟩

end Sys2Proof.Proofs
end

section
/-! PROOFS. The encoding family (30_encoding.md): the request word (R70 to R76), the packet's checksum (R88), the reply
fields (R91 to R95), and the text record (R100 to R102). -/

namespace Sys2Proof.Proofs

open Sys2Proof.Machine Sys2Proof.Safety Sys2Proof.Laws

/-! ## The request word -/

/-- The value of one bit of a word. -/
theorem toNat_getLsbD {n : Nat} (w : BitVec n) (i : Nat) : (w.getLsbD i).toNat = w.toNat / 2 ^ i % 2 :=
  Nat.toNat_testBit w.toNat i

/-- The operation code as a number (30_encoding.md R70). -/
theorem opcode_eq (w : Request) :
    w.toNat / 2 ^ 38 = 2 * (w.getLsbD 39).toNat + (w.getLsbD 38).toNat := by
  have hw := w.isLt
  simp only [toNat_getLsbD]
  omega

/-- The decoder, by operation code. -/
theorem decodeRequest_cases (w : Request) :
    (w.toNat / 2 ^ 38 = 0 ∧ decodeRequest w = .bind (w.extractLsb' 0 8).toNat) ∨
    (w.toNat / 2 ^ 38 = 1 ∧ decodeRequest w =
      .encode (w.getLsbD 37) (w.extractLsb' 0 32).toInt (dirFieldOfBits (w.getLsbD 35) (w.getLsbD 34))
        (modeOfBit (w.getLsbD 36))) ∨
    (w.toNat / 2 ^ 38 = 2 ∧ decodeRequest w = .decode (formOfBit (w.getLsbD 0))) ∨
    (w.toNat / 2 ^ 38 = 3 ∧ decodeRequest w = .csum) := by
  rw [opcode_eq, decodeRequest]
  cases w.getLsbD 39 <;> cases w.getLsbD 38 <;> simp

/-- The operation code is part of every format. -/
theorem getLsbD_definedBits_opcode (w : Request) {i : Nat} (hi : i = 38 ∨ i = 39) :
    (definedBits w).getLsbD i = true := by
  unfold definedBits
  obtain rfl | rfl := hi <;> split <;> rfl

/-- The format of a word is that of its operation code. -/
theorem definedBits_congr {w w' : Request} (h39 : w.getLsbD 39 = w'.getLsbD 39) (h38 : w.getLsbD 38 = w'.getLsbD 38) :
    definedBits w = definedBits w' := by
  simp only [definedBits, h39, h38]

/-- 30_encoding.md R76: the decoder does not look at reserved bits. -/
theorem decodeRequest_and_definedBits (w : Request) : decodeRequest (w &&& definedBits w) = decodeRequest w := by
  have h39 := getLsbD_definedBits_opcode w (.inr rfl)
  have h38 := getLsbD_definedBits_opcode w (.inl rfl)
  have hid : BitVec.extractLsb' 0 8 0xC0000000FF#40 = BitVec.allOnes 8 := rfl
  have hrpm : BitVec.extractLsb' 0 32 0xFCFFFFFFFF#40 = BitVec.allOnes 32 := rfl
  simp only [decodeRequest, BitVec.getLsbD_and, h39, h38, Bool.and_true, BitVec.extractLsb'_and]
  unfold definedBits
  cases w.getLsbD 39 <;> cases w.getLsbD 38
  · simp only [hid, BitVec.and_allOnes]
  · simp only [hrpm, BitVec.and_allOnes]
    simp
  · simp
  · rfl

theorem toNat_bitsOfDirField (hi lo : Bool) :
    (bitsOfDirField (dirFieldOfBits hi lo)).toNat = 2 * hi.toNat + lo.toNat := by
  cases hi <;> cases lo <;> rfl

theorem toNat_bitOfMode (b : Bool) : (bitOfMode (modeOfBit b)).toNat = b.toNat := by
  cases b <;> rfl

theorem toNat_bitOfForm (b : Bool) : (bitOfForm (formOfBit b)).toNat = b.toNat := by
  cases b <;> rfl

/-- 30_encoding.md R75, `sext(REQ[31:0])`. -/
theorem toInt_extractLsb'_low32 (w : Request) :
    (w.extractLsb' 0 32).toInt =
      if w.toNat % 2 ^ 32 < 2 ^ 31 then (w.toNat % 2 ^ 32 : Int) else (w.toNat % 2 ^ 32 : Int) - 2 ^ 32 := by
  rw [BitVec.toInt_eq_toNat_cond, BitVec.extractLsb'_toNat, Nat.shiftRight_zero]
  split <;> split <;> omega

/-- Settles O3: two such words have one format, and each decodes as it does with its reserved bits cleared. -/
theorem reservedBitsAreIgnored : Obligations.ReservedBitsAreIgnored := by
  intro w w' h
  have hbit : ∀ i, i = 38 ∨ i = 39 → w.getLsbD i = w'.getLsbD i := fun i hi => by
    simpa [getLsbD_definedBits_opcode, hi] using congrArg (BitVec.getLsbD · i) h
  have hformat : definedBits w = definedBits w' := definedBits_congr (hbit 39 (.inr rfl)) (hbit 38 (.inl rfl))
  calc decodeRequest w = decodeRequest (w &&& definedBits w) := (decodeRequest_and_definedBits w).symm
    _ = decodeRequest (w' &&& definedBits w') := by rw [h, hformat]
    _ = decodeRequest w' := decodeRequest_and_definedBits w'

/-- Settles O4: one operation for each of the four values of the two bits. -/
theorem operationCodeSelectsOperation : Obligations.OperationCodeSelectsOperation := by
  intro w
  obtain ⟨hop, hdec⟩ | ⟨hop, hdec⟩ | ⟨hop, hdec⟩ | ⟨hop, hdec⟩ := decodeRequest_cases w <;>
    rw [hop, hdec] <;> simp

/-- Settles O5: field by field in the format the operation code selects. -/
theorem operandsAreAssembledFromTheWord : Obligations.OperandsAreAssembledFromTheWord := by
  intro w
  obtain ⟨-, hdec⟩ | ⟨-, hdec⟩ | ⟨-, hdec⟩ | ⟨-, hdec⟩ := decodeRequest_cases w <;> rw [hdec]
  · refine ⟨fun id h => ?_, by simp, by simp⟩
    cases h
    simp
  · refine ⟨by simp, fun ok rpm dir mode h => ?_, by simp⟩
    cases h
    refine ⟨toInt_extractLsb'_low32 w, ?_, ?_, toNat_getLsbD w 37⟩
    · rw [toNat_bitsOfDirField, toNat_getLsbD, toNat_getLsbD]
      omega
    · rw [toNat_bitOfMode, toNat_getLsbD]
  · refine ⟨by simp, by simp, fun form h => ?_⟩
    cases h
    rw [toNat_bitOfForm, toNat_getLsbD, pow_zero, Nat.div_one]
  · simp

/-! ## The checksum of a packet (30_encoding.md R88) -/

/-- The sum of a packet's bytes 0 to 42. -/
def bodySum (p : Vector Byte 44) : Nat := ∑ i ∈ Finset.range 43, (bufferByte p i).toNat

theorem byteSum_eq_sum (l : List Byte) : byteSum l = (l.map BitVec.toNat).sum := by
  induction l with
  | nil => rfl
  | cons b rest ih => rw [byteSum, ih, List.map_cons, List.sum_cons]

/-- The bytes `csum` adds up are those the host reads at offsets 0 to 42. -/
theorem byteSum_take_eq_bodySum (p : Vector Byte 44) : byteSum (p.toList.take 43) = bodySum p := by
  have hbytes : p.toList.take 43 = (List.range 43).map (bufferByte p) := by
    refine List.ext_getElem (by simp) fun i hi _ => ?_
    have hi : i < 44 := by simp at hi; omega
    simp [bufferByte, hi]
  rw [byteSum_eq_sum, hbytes, List.map_map]
  rfl

@[simp] theorem bodySum_replicate : bodySum (Vector.replicate 44 0#8) = 0 := by
  simp [bodySum]

/-- A byte put where 0x00 stood adds its value. -/
theorem bodySum_setByte {p : Vector Byte 44} {i : Nat} (hi : i < 43) (hp : bufferByte p i = 0#8) (b : Byte) :
    bodySum (setByte p i b) = b.toNat + bodySum p := by
  have hupdate : (fun j => (bufferByte (setByte p i b) j).toNat) =
      Function.update (fun j => (bufferByte p j).toNat) i b.toNat := by
    funext j
    by_cases hj : j = i
    · simp [bufferByte_setByte, hj, Nat.lt_succ_of_lt hi]
    · simp [bufferByte_setByte, hj]
  have hmem : i ∈ Finset.range 43 := Finset.mem_range.2 hi
  rw [bodySum, bodySum, hupdate, Finset.sum_update_of_mem hmem, ← Finset.sum_sdiff (Finset.singleton_subset_iff.2 hmem)]
  simp [hp]

/-- The bytes of a sealed packet: the checksum at offset 43, the body before it. -/
theorem bufferByte_sealPacket (p : Vector Byte 44) (i : Nat) :
    bufferByte (sealPacket p) i = if i = 43 then csum (p.toList.take 43) else bufferByte p i := by
  simp [sealPacket, bufferByte_setByte, csumSpan]

theorem bodySum_sealPacket (p : Vector Byte 44) : bodySum (sealPacket p) = bodySum p :=
  Finset.sum_congr rfl fun i hi => by
    rw [bufferByte_sealPacket, if_neg (Finset.mem_range.1 hi).ne]

theorem toNat_csum_take (p : Vector Byte 44) : (csum (p.toList.take 43)).toNat = (165 + bodySum p) % 256 := by
  rw [csum, byteSum_take_eq_bodySum, BitVec.toNat_ofNat, csumSeed]

theorem clamp_le (rpm : Int) : clamp rpm ≤ 2200 := by
  have hmax : rpmMax = 2200 := rfl
  unfold clamp
  split_ifs <;> omega

/-- A clamped demand fits two bytes (41_encoder.md R126). -/
theorem demand_clamp_div_lt (rpm : Int) : demand (clamp rpm) / 256 < 256 := by
  have := clamp_le rpm
  simp only [demand, demandScale, rpmFullScale]
  omega

theorem directionCode_le (d : Direction) : directionCode d ≤ 1 := by cases d <;> decide

theorem modeCode_le (m : Mode) : modeCode m ≤ 1 := by cases m <;> decide

/-- The bytes of a packet's body, offset by offset (30_encoding.md R80). -/
theorem bufferByte_packetBody (cfg : Config) {t : Nat} (ht : t ≤ 7) (c : Nat) (d : Direction) (m : Mode) (i : Nat) :
    bufferByte (packetBody cfg t c d m) i =
      if i = 37 then BitVec.ofNat 8 (1 <<< cfg.flagShift t)
      else if i = 35 then BitVec.ofNat 8 (modeCode m <<< cfg.flagShift t)
      else if i = 33 then BitVec.ofNat 8 (directionCode d <<< cfg.flagShift t)
      else if i = 2 * t then BitVec.ofNat 8 (demand c / 256)
      else if i = 2 * t - 1 then BitVec.ofNat 8 (demand c % 256)
      else if i = 0 then cfg.addrByte t
      else 0#8 := by
  have hhigh : 2 * t < 44 := by omega
  have hlow : 2 * t - 1 < 44 := by omega
  simp [packetBody, bufferByte_setByte, hhigh, hlow]

/-- Each assignment of 41_encoder.md R127 finds 0x00 at its offset, so the body's sum is the sum of the six bytes. -/
theorem bodySum_packetBody (cfg : Config) {t : Nat} (hmin : 1 ≤ t) (hmax : t ≤ 7) (c : Nat) (d : Direction) (m : Mode) :
    bodySum (packetBody cfg t c d m) =
      (BitVec.ofNat 8 (1 <<< cfg.flagShift t)).toNat + ((BitVec.ofNat 8 (modeCode m <<< cfg.flagShift t)).toNat +
      ((BitVec.ofNat 8 (directionCode d <<< cfg.flagShift t)).toNat + ((BitVec.ofNat 8 (demand c / 256)).toNat +
      ((BitVec.ofNat 8 (demand c % 256)).toNat + (cfg.addrByte t).toNat)))) := by
  simp only [packetBody]
  have hlow : 2 * t - 1 ≠ 0 ∧ 2 * t - 1 < 43 := by omega
  have hhigh : t ≠ 0 ∧ 2 * t ≠ 2 * t - 1 ∧ 2 * t < 43 := by omega
  have hslot : ∀ i, 15 ≤ i → i ≠ 2 * t ∧ i ≠ 2 * t - 1 := by omega
  rw [bodySum_setByte, bodySum_setByte, bodySum_setByte, bodySum_setByte, bodySum_setByte, bodySum_setByte,
    bodySum_replicate, Nat.add_zero]
  all_goals simp [bufferByte_setByte, hlow, hhigh, hslot]

/-- 30_encoding.md R88, the sum of seven terms: with `FLAG_SHIFT` = 0 every byte of the body is its own term. -/
theorem bodySum_packetBody_decided {t : Nat} (hmin : 1 ≤ t) (hmax : t ≤ 7) (rpm : Int) (d : Direction) (m : Mode) :
    bodySum (packetBody decidedConfig t (clamp rpm) d m) =
      t + demand (clamp rpm) % 256 + demand (clamp rpm) / 256 + directionCode d + modeCode m + 1 := by
  have hdemand := demand_clamp_div_lt rpm
  have hdir := directionCode_le d
  have hmode := modeCode_le m
  rw [bodySum_packetBody decidedConfig hmin hmax]
  simp only [decidedConfig, Nat.shiftLeft_zero, BitVec.toNat_ofNat]
  omega

/-- Settles O26: the byte at offset 43 is the seed plus the body's sum, which is the sum of the six bytes written. -/
theorem packetChecksumIsOneSum : Obligations.PacketChecksumIsOneSum := by
  intro t rpm d m hmin hmax
  have hsum := bodySum_packetBody_decided hmin hmax rpm d m
  have hbyte : bufferByte (encodePacket decidedConfig t rpm d m) 43 =
      csum ((packetBody decidedConfig t (clamp rpm) d m).toList.take 43) := bufferByte_sealPacket _ 43
  refine ⟨?_, ?_, fun i hlo hhi => ?_⟩
  · rw [hbyte, toNat_csum_take, ← bodySum_sealPacket]
    rfl
  · rw [hbyte, toNat_csum_take, hsum]
    simp only [Nat.add_assoc]
  · rw [encodePacket, assemble, bufferByte_sealPacket, if_neg (by omega), bufferByte_packetBody _ hmax]
    have hslot : i ≠ 2 * t ∧ i ≠ 2 * t - 1 := by omega
    simp [hslot, show i ≠ 37 by omega, show i ≠ 35 by omega, show i ≠ 33 by omega, show i ≠ 0 by omega]

/-! ## The fields of a reply frame (30_encoding.md R91 to R95) -/

/-- Two adjacent bytes as one number, the higher offset more significant. -/
theorem toNat_append_bytes (hi lo : Byte) : (hi ++ lo).toNat = hi.toNat * 256 + lo.toNat := by
  rw [BitVec.toNat_append, ← Nat.shiftLeft_add_eq_or_of_lt lo.isLt, Nat.shiftLeft_eq]

theorem toNat_replyAddress (frame : List Byte) : (replyAddress frame).toNat = (frameByte frame 0).toNat % 32 := by
  simp [replyAddress]

theorem toNat_replySpeed (frame : List Byte) :
    (replySpeed frame).toNat = (frameByte frame 2).toNat * 256 + (frameByte frame 1).toNat :=
  toNat_append_bytes _ _

theorem directionCode_replyDirection (statusByte : Byte) :
    directionCode (replyDirection statusByte) = statusByte.toNat % 2 := by
  have hbit := toNat_getLsbD statusByte 0
  rw [pow_zero, Nat.div_one] at hbit
  rw [replyDirection, ← hbit]
  cases statusByte.getLsbD 0 <;> rfl

theorem toNat_replyCurRaw (frame : List Byte) :
    (replyCurRaw frame).toNat = ((frameByte frame 4).toNat * 256 + (frameByte frame 3).toNat) % 1024 := by
  rw [replyCurRaw, BitVec.extractLsb'_toNat, toNat_append_bytes, Nat.shiftRight_zero]

theorem toNat_replyTmpRaw (frame : List Byte) :
    (replyTmpRaw frame).toNat = ((frameByte frame 6).toNat * 256 + (frameByte frame 5).toNat) % 1024 := by
  rw [replyTmpRaw, BitVec.extractLsb'_toNat, toNat_append_bytes, Nat.shiftRight_zero]

/-- A frame that decodes gives its raw fields. -/
theorem decodeFields_raw {cfg : Config} {frame : List Byte} {r : Telemetry} (h : decodeFields cfg frame = some r) :
    r.address = replyAddress frame ∧ r.speed = replySpeed frame ∧
      r.direction = replyDirection (frameByte frame 18) ∧ r.curRaw = replyCurRaw frame ∧
      r.tmpRaw = replyTmpRaw frame := by
  unfold decodeFields at h
  split at h
  · cases h
  · cases h
    exact ⟨rfl, rfl, rfl, rfl, rfl⟩

/-- 42_decoder.md R168 with `condensed` = 0: a frame of 20 bytes or more goes to the telemetry registers. -/
theorem exec_decode_tel_of_long {s : State} (h : 19 < s.ibufLen) :
    ∃ r, decodeFields decidedConfig (replyFrame s) = some r ∧
      exec (.decode .tel) s = .next (respond .ok .noCause (writeTelemetry (telRegsOf decidedConfig r) s)) := by
  obtain ⟨hshort, -⟩ | ⟨r, -, hr, -, hs⟩ | ⟨-, -, -, hform, -⟩ := decodeWith_cases decidedConfig .tel s
  · omega
  · exact ⟨r, hr, congrArg Host.Outcome.next hs⟩
  · cases hform

/-- Settles O33: each raw register is a field of the reply frame, whose bytes are those of `IBUF`. -/
theorem decodeFillsTheTelemetryRegisters : Obligations.DecodeFillsTheTelemetryRegisters := by
  intro s h
  obtain ⟨r, hr, hexec⟩ := exec_decode_tel_of_long h
  obtain ⟨haddress, hspeed, hdirection, hcur, htmp⟩ := decodeFields_raw hr
  have hbyte : ∀ i, i ≤ 18 → frameByte (replyFrame s) i = byteAt s .ibuf i := fun i hi =>
    frameByte_replyFrame s (by omega)
  refine ⟨_, hexec, rfl, ?_, ?_, ?_, ?_, ?_⟩
  · simp [telRegsOf, haddress, toNat_replyAddress, hbyte]
  · simp [telRegsOf, hspeed, toNat_replySpeed, hbyte]
  · simp [telRegsOf, hdirection, directionCode_replyDirection, hbyte]
  · simp [telRegsOf, hcur, toNat_replyCurRaw, hbyte]
  · simp [telRegsOf, htmp, toNat_replyTmpRaw, hbyte]

/-! ## The text record (30_encoding.md R100 to R102) -/

theorem toNat_digit (n : Nat) : (digit n).toNat = 0x30 + n % 10 := by
  rw [digit, BitVec.toNat_ofNat]
  omega

theorem isDigit_digit (n : Nat) : IsDigit (digit n) := by
  rw [IsDigit, toNat_digit]
  omega

/-- Any fuel above `n` gives the same digits. -/
theorem decFuel_congr {fuel fuel' n : Nat} (h : n < fuel) (h' : n < fuel') : decFuel fuel n = decFuel fuel' n := by
  induction fuel generalizing fuel' n with
  | zero => omega
  | succ k ih =>
    obtain ⟨k', rfl⟩ := Nat.exists_eq_succ_of_ne_zero (Nat.ne_zero_of_lt h')
    rw [decFuel, decFuel]
    split
    · rfl
    · rw [ih (fuel' := k') (by omega) (by omega)]

theorem dec_of_lt {n : Nat} (h : n < 10) : dec n = [digit n] := by
  rw [dec, decFuel, if_pos h]

/-- The last digit, behind the numeral of the others. -/
theorem dec_of_ge {n : Nat} (h : 10 ≤ n) : dec n = dec (n / 10) ++ [digit n] := by
  rw [dec, decFuel, if_neg (by omega), dec, decFuel_congr (by omega) (Nat.lt_succ_self _)]

/-- Induction along the digits of a numeral. -/
theorem dec_induction {motive : Nat → Prop} (one : ∀ n, n < 10 → motive n)
    (more : ∀ n, 10 ≤ n → motive (n / 10) → motive n) (n : Nat) : motive n := by
  induction n using Nat.strong_induction_on with
  | _ n ih =>
    by_cases h : n < 10
    · exact one n h
    · exact more n (by omega) (ih (n / 10) (by omega))

theorem isDigit_of_mem_dec (n : Nat) : ∀ b ∈ dec n, IsDigit b := by
  induction n using dec_induction with
  | one n h => simp [dec_of_lt h, isDigit_digit]
  | more n h ih =>
    intro b hb
    rw [dec_of_ge h, List.mem_append, List.mem_singleton] at hb
    obtain hb | rfl := hb
    · exact ih b hb
    · exact isDigit_digit n

theorem numeralValue_append_digit (text : List Byte) (n : Nat) :
    numeralValue (text ++ [digit n]) = 10 * numeralValue text + n % 10 := by
  simp [numeralValue, toNat_digit]

theorem numeralValue_dec (n : Nat) : numeralValue (dec n) = n := by
  induction n using dec_induction with
  | one n h =>
    simp [dec_of_lt h, numeralValue, toNat_digit, Nat.mod_eq_of_lt h]
  | more n h ih =>
    rw [dec_of_ge h, numeralValue_append_digit, ih]
    omega

theorem dec_ne_nil (n : Nat) : dec n ≠ [] := by
  rw [dec, decFuel]
  split <;> simp

/-- A leading zero can only come from a one-digit numeral. -/
theorem eq_zero_of_head?_dec {n : Nat} (hhead : (dec n).head? = some 0x30#8) : n = 0 := by
  induction n using dec_induction with
  | one n h =>
    rw [dec_of_lt h, List.head?_singleton, Option.some.injEq] at hhead
    have hvalue := congrArg BitVec.toNat hhead
    rw [toNat_digit, BitVec.toNat_ofNat] at hvalue
    omega
  | more n h ih =>
    rw [dec_of_ge h, List.head?_append_of_ne_nil _ (dec_ne_nil _)] at hhead
    have := ih hhead
    omega

/-- Settles O40: by induction along the digits, from the last one. -/
theorem numeralsAreDecimal : Obligations.NumeralsAreDecimal :=
  fun n => ⟨isDigit_of_mem_dec n, numeralValue_dec n, dec_ne_nil n, eq_zero_of_head?_dec, rfl⟩

/-! ## No field has a comma of its own -/

theorem comma_ne_of_isDigit {b : Byte} (h : IsDigit b) : comma ≠ b := by
  rintro rfl
  simp [IsDigit, comma] at h

theorem comma_not_mem_dec (n : Nat) : comma ∉ dec n := fun h =>
  comma_ne_of_isDigit (isDigit_of_mem_dec n _ h) rfl

theorem comma_not_mem_hundredths (h : Int) : comma ∉ hundredths h := by
  have hsign : comma ∉ (if h < 0 then [minus] else []) := by
    split <;> decide
  have hstop : comma ≠ fullStop := by decide
  simp [hundredths, hsign, hstop, comma_not_mem_dec, comma_ne_of_isDigit (isDigit_digit _)]

theorem comma_not_mem_fix2 (cfg : Config) (q : Frac) : comma ∉ fix2 cfg q := comma_not_mem_hundredths _

theorem dec_directionCode (d : Direction) :
    dec (directionCode d) = [if d = .forward then 0x30#8 else 0x31#8] := by
  cases d <;> rfl

theorem decBool_eq (b : Bool) : decBool b = [if b then 0x31#8 else 0x30#8] := by
  cases b <;> rfl

/-- The nine fields of a record, in the order of 30_encoding.md R102. -/
def recordFields (cfg : Config) (r : Telemetry) : List (List Byte) :=
  [dec r.address.toNat, dec r.speed.toNat, dec (directionCode r.direction), fix2 cfg r.currentAmps,
    fix2 cfg r.temperatureC, decBool r.leak, decBool r.speedError, decBool r.overTemp, decBool r.overCurrent]

theorem render_eq_intercalate (cfg : Config) (r : Telemetry) :
    render cfg r = [comma].intercalate (recordFields cfg r) := by
  simp [render, recordFields, List.intercalate]

theorem comma_not_mem_recordFields (cfg : Config) (r : Telemetry) : ∀ field ∈ recordFields cfg r, comma ∉ field := by
  simp [recordFields, decBool, comma_not_mem_dec, comma_not_mem_fix2]

/-- Settles O44: the record is the nine fields joined by commas, and no field has a comma of its own. -/
theorem recordIsNineFieldsBetweenCommas : Obligations.RecordIsNineFieldsBetweenCommas := by
  intro cfg r
  have hsplit : (render cfg r).splitOn comma = recordFields cfg r := by
    rw [render_eq_intercalate]
    exact List.splitOn_intercalate comma (comma_not_mem_recordFields cfg r) (List.cons_ne_nil _ _)
  exact hsplit.trans (by simp only [recordFields, dec_directionCode, decBool_eq])

end Sys2Proof.Proofs
end

section
/-! PROOFS. The checksum family (40_checksum.md): the function (R110), `CSUM` (R112, R113), and valid packets (R115). -/

namespace Sys2Proof.Proofs

open Sys2Proof.Machine Sys2Proof.Safety Sys2Proof.Laws

/-! ## The checksum function (R110) -/

theorem toNat_csum (body : List Byte) : (csum body).toNat = (165 + (body.map BitVec.toNat).sum) % 256 := by
  rw [csum, byteSum_eq_sum, BitVec.toNat_ofNat, csumSeed]

theorem sum_toNat_bytes_le (body : List Byte) : (body.map BitVec.toNat).sum ≤ body.length * 255 := by
  have hbyte : ∀ n ∈ body.map BitVec.toNat, n ≤ 255 := by
    rintro _ hn
    obtain ⟨b, -, rfl⟩ := List.mem_map.1 hn
    exact Nat.le_of_lt_succ b.isLt
  simpa using List.sum_le_card_nsmul _ 255 hbyte

/-- Settles O45: no byte is above 255, so 43 of them sum to at most 10965. -/
theorem checksumIsSeedPlusBytesModulo256 : Obligations.ChecksumIsSeedPlusBytesModulo256 := by
  intro body hlen
  have hsum := sum_toNat_bytes_le body
  rw [hlen] at hsum
  exact ⟨toNat_csum body, by omega⟩

/-! ## CSUM (R112, R113) -/

/-- The body `CSUM` adds up is `IBUF[0..42]`, byte by byte. -/
theorem map_toNat_checksumBody (s : State) :
    (checksumBody s).map BitVec.toNat = (List.range 43).map fun i => (byteAt s .ibuf i).toNat := by
  simp [checksumBody, csumSpan, memRead]

/-- The whole next state of a completed `CSUM`, for any byte written. -/
theorem respond_ok_writeChecksum (b : Byte) (s : State) :
    respond .ok .noCause (writeChecksum b s) =
      { s with csr := b, csrValid := true, status := 0#3, cause := 0#2, rsp := some ⟨0#3, 0#2⟩ } := rfl

/-- Settles O48: the failure of `CSUM` clears its own two registers and answers `BadLength`. -/
theorem otherLengthsAreBadLength : Obligations.OtherLengthsAreBadLength := by
  intro s hlen
  rw [exec_csum_of_length_ne hlen, raise_eq]
  rfl

/-- Settles O47: the two cases of `IBUF_LEN`; at 43 the sum is that of the bytes of `IBUF`. -/
theorem csumWritesTheChecksumOfTheBody : Obligations.CsumWritesTheChecksumOfTheBody := by
  intro s
  constructor
  · intro hlen
    have hexec := exec_csum_of_length_eq hlen
    rw [respond_ok_writeChecksum] at hexec
    refine ⟨_, hexec, ?_, rfl⟩
    rw [← map_toNat_checksumBody]
    exact toNat_csum (checksumBody s)
  · intro hlen
    exact ⟨_, otherLengthsAreBadLength s hlen, rfl, rfl, rfl⟩

/-! ## Checksum-valid packets (R115) -/

/-- The byte put at offset 43 is outside the body it is the checksum of. -/
theorem checksumValid_sealPacket (p : Vector Byte 44) : ChecksumValid (sealPacket p) := by
  have hbyte : bufferByte (sealPacket p) 43 = csum (p.toList.take 43) := bufferByte_sealPacket p 43
  rw [ChecksumValid, hbyte]
  apply BitVec.eq_of_toNat_eq
  rw [toNat_csum_take, toNat_csum_take, bodySum_sealPacket]

/-- The checksum of 43 bytes of 0x00 is the seed, which is not 0x00. -/
theorem not_checksumValid_zeroPacket : ¬ ChecksumValid zeroPacket := by
  intro hvalid
  rw [ChecksumValid, zeroPacket, bufferByte_replicate] at hvalid
  have hseed := congrArg BitVec.toNat hvalid
  rw [toNat_csum_take, bodySum_replicate] at hseed
  exact absurd hseed (by decide)

/-- Settles O27: every packet is sealed, under any configuration; the zero packet has 0x00 where the seed would be. -/
theorem packetsAreChecksumValidUnderEveryConfig : Obligations.PacketsAreChecksumValidUnderEveryConfig :=
  ⟨fun _ _ _ _ _ => checksumValid_sealPacket _, not_checksumValid_zeroPacket⟩

end Sys2Proof.Proofs
end

section
/-! PROOFS. The encoder family (41_encoder.md): `BIND` (R120 to R122), `ENCODE` (R123, R127 to R130), the clamp (R124)
and the demand (R125). -/

namespace Sys2Proof.Proofs

open Sys2Proof.Machine Sys2Proof.Safety Sys2Proof.Laws

/-! ## BIND (R120, R122) -/

/-- A bound block refuses any id. -/
theorem exec_bind_of_bound {s : State} (hbound : s.bound = true) (id : Nat) :
    exec (.bind id) s = .next { s with status := 5#3, cause := 0#2, rsp := some ⟨5#3, 0#2⟩ } := by
  obtain ⟨-, hs⟩ | ⟨hunbound, -⟩ | ⟨hunbound, -⟩ := execBind_cases id s
  · exact hs
  · simp [hbound] at hunbound
  · simp [hbound] at hunbound

/-- An unbound block refuses an id outside 1 to 7. -/
theorem exec_bind_of_invalid {s : State} {id : Nat} (hunbound : s.bound = false) (hid : id < 1 ∨ 7 < id) :
    exec (.bind id) s = .next { s with status := 1#3, cause := 0#2, rsp := some ⟨1#3, 0#2⟩ } := by
  obtain ⟨hbound, -⟩ | ⟨-, -, hs⟩ | ⟨-, hvalid, -⟩ := execBind_cases id s
  · simp [hunbound] at hbound
  · exact hs
  · omega

/-- An unbound block takes an id from 1 to 7. -/
theorem exec_bind_of_valid {s : State} {id : Nat} (hunbound : s.bound = false) (hmin : 1 ≤ id) (hmax : id ≤ 7) :
    exec (.bind id) s = .next (respond .ok .noCause (setBinding id s)) := by
  obtain ⟨hbound, -⟩ | ⟨-, hinvalid, -⟩ | ⟨-, -, hs⟩ := execBind_cases id s
  · simp [hunbound] at hbound
  · omega
  · exact hs

/-- `TID` has room for every id an encoder can be bound to. -/
theorem toNat_setBinding_tid {id : Nat} (hmax : id ≤ 7) (s : State) : (setBinding id s).tid.toNat = id := by
  rw [setBinding_tid, BitVec.toNat_ofNat]
  omega

/-- Settles O17: one case each of a valid id, an invalid id, and a bound block. -/
theorem bindHasThreeOutcomes : Obligations.BindHasThreeOutcomes := by
  intro s id
  refine ⟨fun hunbound hmin hmax => ?_, fun hunbound hid => ?_, fun hbound => ?_⟩
  · exact ⟨_, exec_bind_of_valid hunbound hmin hmax, toNat_setBinding_tid hmax s, rfl⟩
  · exact ⟨_, exec_bind_of_invalid hunbound hid, hunbound, rfl, rfl, rfl⟩
  · exact ⟨_, exec_bind_of_bound hbound id, hbound, rfl, rfl, rfl⟩

/-- Settles O18: the state a refused id leaves is still unbound, so a valid id binds it. -/
theorem failedBindChangesOnlyTheOutcome : Obligations.FailedBindChangesOnlyTheOutcome := by
  intro s id
  refine ⟨fun hbound => exec_bind_of_bound hbound id, fun hunbound hid => ⟨exec_bind_of_invalid hunbound hid, ?_⟩⟩
  intro id' hmin hmax
  exact ⟨_, exec_bind_of_valid hunbound hmin hmax, rfl, toNat_setBinding_tid hmax s, rfl⟩

/-! ## The binding over a step (R121) -/

/-- `ENCODE` writes no register of the binding, whatever its outcome. -/
theorem encodeWith_binding (cfg : Config) (rpmOk : Bool) (rpm : Int) (dir : DirField) (mode : Mode) (s : State) :
    (encodeWith cfg rpmOk rpm dir mode s).bound = s.bound ∧ (encodeWith cfg rpmOk rpm dir mode s).tid = s.tid := by
  obtain ⟨-, hs⟩ | ⟨-, -, hs⟩ | ⟨-, -, -, hs⟩ | ⟨d, -, -, -, hs⟩ := encodeWith_cases cfg rpmOk rpm dir mode s <;>
    simp [hs]

/-- `DECODE` writes no register of the binding, whatever its outcome. -/
theorem decodeWith_binding (cfg : Config) (form : Form) (s : State) :
    (decodeWith cfg form s).bound = s.bound ∧ (decodeWith cfg form s).tid = s.tid := by
  obtain ⟨-, -, hs⟩ | ⟨r, -, -, -, hs⟩ | ⟨r, -, -, -, hs⟩ := decodeWith_cases cfg form s <;> simp [hs]

/-- An operation keeps the binding, or it is a `BIND` that binds an unbound block to its id. -/
theorem exec_binding {i : Instr} {s t : State} (h : exec i s = .next t) :
    (t.bound = s.bound ∧ t.tid = s.tid) ∨
      ∃ id, i = .bind id ∧ s.bound = false ∧ t.bound = true ∧ t.status = 0#3 ∧ t.tid.toNat = id := by
  cases i with
  | bind id =>
    obtain ⟨-, hs⟩ | ⟨-, -, hs⟩ | ⟨hunbound, ⟨-, hmax⟩, hs⟩ := execBind_cases id s
    · cases hs.symm.trans h
      exact .inl ⟨rfl, rfl⟩
    · cases hs.symm.trans h
      exact .inl ⟨rfl, rfl⟩
    · cases hs.symm.trans h
      exact .inr ⟨id, rfl, hunbound, rfl, rfl, toNat_setBinding_tid hmax s⟩
  | encode rpmOk rpm dir mode =>
    cases h
    exact .inl (encodeWith_binding decidedConfig rpmOk rpm dir mode s)
  | decode form =>
    cases h
    exact .inl (decodeWith_binding decidedConfig form s)
  | csum =>
    obtain ⟨-, hs⟩ | ⟨-, hs⟩ := execCsum_cases s <;> cases hs.symm.trans h <;> simp

/-- A step that is no reset keeps the binding, or it runs a `BIND` that binds an unbound block to its id. -/
theorem step_binding {s t : State} (h : step s = .next t) (hreset : ¬NextIsReset s) :
    (t.bound = s.bound ∧ t.tid = s.tid) ∨
      (s.bound = false ∧ t.bound = true ∧ t.status = 0#3 ∧
        ∃ w rest id, s.stream = .request w :: rest ∧ decodeRequest w = .bind id ∧ t.tid.toNat = id) := by
  obtain ⟨-, rfl⟩ | ⟨a, rest, hstream, hact⟩ := step_cases h
  · exact .inl ⟨rfl, rfl⟩
  · obtain ⟨w, rfl, hexec⟩ | ⟨ha, -⟩ | ⟨bytes, -, rfl⟩ | ⟨off, b, -, -, rfl⟩ | ⟨n, -, -, rfl⟩ := hact
    · obtain hkeep | ⟨id, hinstr, hunbound, hbound, hstatus, htid⟩ := exec_binding hexec
      · exact .inl hkeep
      · exact .inr ⟨hunbound, hbound, hstatus, w, rest, id, hstream, hinstr, htid⟩
    · refine absurd ⟨rest, ?_⟩ hreset
      obtain rfl | ⟨w, rfl⟩ := ha
      · exact .inl hstream
      · exact .inr ⟨w, hstream⟩
    · exact .inl ⟨rfl, rfl⟩
    · exact .inl ⟨rfl, rfl⟩
    · exact .inl ⟨rfl, rfl⟩

/-- Settles O19: a step keeps the binding or binds an unbound block; each half of the claim is about one of the two. -/
theorem bindingLastsUntilReset : Obligations.BindingLastsUntilReset := by
  intro s t h hreset
  obtain ⟨hbound, htid⟩ | hbind := step_binding h hreset
  · exact ⟨fun hs => ⟨hbound.trans hs, htid⟩, fun hchange => by simp [hbound, htid] at hchange⟩
  · exact ⟨fun hs => by simp [hs] at hbind, fun _ => hbind⟩

/-! ## ENCODE: its outcomes (R123, R129, R130) -/

/-- `dir[1] = 1` names no direction (R123). -/
theorem recognised_eq_none_iff (dir : DirField) : recognised dir = none ↔ dir = .dir2 ∨ dir = .dir3 := by
  cases dir <;> simp [recognised]

/-! Validation in the order of R123, one equation for each test. -/

section
variable {s : State} (cfg : Config) (rpm : Int) (mode : Mode)

theorem encodeWith_of_unbound (hunbound : s.bound = false) (rpmOk : Bool) (dir : DirField) :
    encodeWith cfg rpmOk rpm dir mode s = raise .encode .notBound .noCause s := by
  simp [encodeWith, hunbound]

theorem encodeWith_of_bad_rpm (hbound : s.bound = true) (dir : DirField) :
    encodeWith cfg false rpm dir mode s = raise .encode .invalidCommand .rpm s := by
  simp [encodeWith, hbound]

theorem encodeWith_of_unrecognised {dir : DirField} (hbound : s.bound = true) (hdir : recognised dir = none) :
    encodeWith cfg true rpm dir mode s = raise .encode .invalidCommand .dir s := by
  simp [encodeWith, hbound, hdir]

/-- R129: a bound block encodes a good rpm and a recognised direction. -/
theorem encodeWith_of_recognised {dir : DirField} {d : Direction} (hbound : s.bound = true)
    (hdir : recognised dir = some d) :
    encodeWith cfg true rpm dir mode s =
      respond .ok .noCause (writePacket (encodePacket cfg s.tid.toNat rpm d mode) s) := by
  simp [encodeWith, hbound, hdir]

end

/-- The whole next state of a completed `ENCODE`, for any packet. -/
theorem respond_ok_writePacket (p : Vector Byte 44) (s : State) :
    respond .ok .noCause (writePacket p s) =
      { s with pkt := p, pktValid := true, status := 0#3, cause := 0#2, rsp := some ⟨0#3, 0#2⟩ } := rfl

/-- Settles O21: the three failures of R123 in their order, each the one effect of `raise`. -/
theorem failedEncodeLeavesNoPacket : Obligations.FailedEncodeLeavesNoPacket := by
  intro s rpmOk rpm dir mode
  refine ⟨fun hunbound => ?_, fun hbound hrpm => ?_, fun hbound hrpm hdir => ?_⟩
  · rw [exec_encode, encodeWith_of_unbound _ _ _ hunbound]
    rfl
  · rw [hrpm, exec_encode, encodeWith_of_bad_rpm _ _ _ hbound]
    rfl
  · rw [hrpm, exec_encode, encodeWith_of_unrecognised _ _ _ hbound ((recognised_eq_none_iff dir).2 hdir)]
    rfl

/-! ## ENCODE: the packet (R127, R128) -/

/-- The values of a packet's bytes before its checksum, offset by offset: each fits its byte. -/
theorem toNat_bufferByte_encodePacket {t : Nat} (hmax : t ≤ 7) (rpm : Int) (d : Direction) (m : Mode) {i : Nat}
    (hi : i ≠ 43) :
    (bufferByte (encodePacket decidedConfig t rpm d m) i).toNat =
      if i = 37 then 1
      else if i = 35 then modeCode m
      else if i = 33 then directionCode d
      else if i = 2 * t then demand (clamp rpm) / 256
      else if i = 2 * t - 1 then demand (clamp rpm) % 256
      else if i = 0 then t
      else 0 := by
  have hdemand := demand_clamp_div_lt rpm
  have hdir := directionCode_le d
  have hmode := modeCode_le m
  rw [encodePacket, assemble, bufferByte_sealPacket, if_neg hi, bufferByte_packetBody _ hmax]
  simp only [apply_ite BitVec.toNat, decidedConfig, Nat.shiftLeft_zero, BitVec.toNat_ofNat]
  simp (disch := omega) only [Nat.mod_eq_of_lt]

/-- The offset map of 30_encoding.md R80 holds of every packet of a bound id: the slot ends before byte 15. -/
theorem packetShape_encodePacket {t : Nat} (hmin : 1 ≤ t) (hmax : t ≤ 7) (rpm : Int) (d : Direction) (m : Mode) :
    PacketShape t (demand (clamp rpm)) (directionCode d) (modeCode m) (encodePacket decidedConfig t rpm d m) := by
  have hbyte {i : Nat} (hi : i ≠ 43) := toNat_bufferByte_encodePacket hmax rpm d m hi
  have hzero {i : Nat} (hi : i ≠ 0 ∧ i ≠ 2 * t - 1 ∧ i ≠ 2 * t ∧ i ≠ 33 ∧ i ≠ 35 ∧ i ≠ 37 ∧ i ≠ 43) :
      bufferByte (encodePacket decidedConfig t rpm d m) i = 0#8 := by
    apply BitVec.eq_of_toNat_eq
    simp (disch := omega) only [hbyte, if_neg, BitVec.toNat_zero]
  refine ⟨?_, ?_, ?_, fun i hlo hhi hlow hhigh => hzero (by omega), ?_, ?_, ?_, fun i hi => hzero (by omega)⟩
  all_goals simp (disch := omega) only [hbyte, if_neg, ↓reduceIte]

/-- Settles O20: the packet of the bound id has the shape of R80 and is sealed with its checksum. -/
theorem encodeProducesThePacket : Obligations.EncodeProducesThePacket := by
  intro s rpm dir d mode hbound htid hdir
  have hmax : s.tid.toNat ≤ 7 := Nat.le_of_lt_succ s.tid.isLt
  rw [exec_encode, encodeWith_of_recognised _ _ _ hbound hdir, respond_ok_writePacket]
  exact ⟨_, rfl, rfl, packetShape_encodePacket htid hmax rpm d mode,
    packetsAreChecksumValidUnderEveryConfig.1 decidedConfig _ rpm d mode⟩

/-! ## The clamp (R124) -/

theorem clamp_of_nonpos {rpm : Int} (h : rpm ≤ 0) : clamp rpm = 0 := if_pos h

theorem clamp_of_gt {rpm : Int} (h : 2200 < rpm) : clamp rpm = 2200 :=
  (if_neg (by omega)).trans (if_pos h)

theorem clamp_of_mem {rpm : Int} (hmin : 0 ≤ rpm) (hmax : rpm ≤ 2200) : (clamp rpm : Int) = rpm := by
  have hlimit : ¬rpmMax < rpm := by rw [rpmMax]; omega
  rw [clamp, if_neg hlimit]
  split <;> omega

/-- A clamped rpm is in range, so clamping it again changes nothing. -/
@[simp] theorem clamp_clamp (rpm : Int) : clamp (clamp rpm : Int) = clamp rpm := by
  have hle := clamp_le rpm
  exact_mod_cast clamp_of_mem (rpm := clamp rpm) (by omega) (by omega)

/-- `ENCODE` looks at the rpm through the clamp only. -/
theorem encodeWith_clamp (cfg : Config) (rpmOk : Bool) (rpm : Int) (dir : DirField) (mode : Mode) (s : State) :
    encodeWith cfg rpmOk (clamp rpm) dir mode s = encodeWith cfg rpmOk rpm dir mode s := by
  simp only [encodeWith, encodePacket, clamp_clamp]

/-- Settles O22: the clamp is idempotent, and nothing else of the rpm reaches the packet or the outcome. -/
theorem clampIsSilent : Obligations.ClampIsSilent := by
  intro rpm
  refine ⟨clamp_of_nonpos, clamp_of_gt, clamp_of_mem, fun s rpmOk dir mode => ⟨?_, fun d hbound hdir => ?_⟩⟩
  · rw [exec_encode, exec_encode, encodeWith_clamp]
  · rw [exec_encode, encodeWith_of_recognised _ _ _ hbound hdir]
    exact ⟨_, rfl, rfl, rfl⟩

/-! ## The demand (R125) -/

/-- Settles O23: the quotient of naturals is the floor of the rational, and the packet's slot carries its two bytes. -/
theorem demandIsTheScaledFloor : Obligations.DemandIsTheScaledFloor := by
  intro c hc
  refine ⟨?_, ?_, fun t d m hmin hmax => ?_⟩
  · rw [div_mul_eq_mul_div]
    exact_mod_cast (Rat.floor_natCast_div_natCast (c * 65536) 2800).symm
  · simp only [demand, demandScale, rpmFullScale]
    omega
  · have hclamp : clamp (c : Int) = c := by exact_mod_cast clamp_of_mem (rpm := c) (by omega) (by omega)
    obtain ⟨-, hlow, hhigh, -⟩ := packetShape_encodePacket hmin hmax c d m
    rw [hclamp] at hlow hhigh
    exact ⟨hhigh, hlow⟩

end Sys2Proof.Proofs
end

section
/-! PROOFS. The decoder family (42_decoder.md): a short frame (R150, R170), the two scaled values (R158, R161), and the
fault booleans under `NONZERO` (R164, R166). -/

namespace Sys2Proof.Proofs

open Sys2Proof.Machine Sys2Proof.Safety Sys2Proof.Laws

/-! ## A frame of at most 19 bytes (R150, R170) -/

theorem exec_decode_of_short {s : State} (h : s.ibufLen ≤ 19) (form : Form) :
    exec (.decode form) s = .next (raise .decode .noData .noCause s) := by
  obtain ⟨-, -, hs⟩ | ⟨-, hlong, -⟩ | ⟨-, hlong, -⟩ := decodeWith_cases decidedConfig form s
  · rw [exec_decode, hs]
  · omega
  · omega

/-- Settles O32: the failure of `DECODE` clears both result sets and answers `NoData`. -/
theorem shortFrameIsNoData : Obligations.ShortFrameIsNoData := by
  intro s form hlen
  rw [exec_decode_of_short hlen, raise_eq]
  rfl

/-! ## What a decoded frame computes from its raw fields -/

/-- The scaled values are functions of the raw fields alone, the fault booleans of the status byte under the policy. -/
theorem decodeFields_computed {cfg : Config} {frame : List Byte} {r : Telemetry} (h : decodeFields cfg frame = some r) :
    (r.currentAmps = amps r.curRaw ∧ r.temperatureC = celsius r.tmpRaw) ∧
      r.leak = faultFlag cfg.faultPolicy (frameByte frame 18) leakMask ∧
      r.speedError = faultFlag cfg.faultPolicy (frameByte frame 18) speedErrorMask ∧
      r.overTemp = faultFlag cfg.faultPolicy (frameByte frame 18) overTempMask ∧
      r.overCurrent = faultFlag cfg.faultPolicy (frameByte frame 18) overCurrentMask := by
  unfold decodeFields at h
  split at h
  · cases h
  · cases h
    exact ⟨⟨rfl, rfl⟩, rfl, rfl, rfl, rfl⟩

/-! ## The scaled values (R158, R161) -/

theorem fracValue_amps (raw : BitVec 10) : fracValue (amps raw) = (raw.toNat : ℚ) / 59 := by
  simp [fracValue, amps, curDiv]

theorem fracValue_celsius (raw : BitVec 10) :
    fracValue (celsius raw) = (146.9 / 200 : ℚ) * raw.toNat - 245.8415 := by
  simp only [fracValue, celsius]
  push_cast
  ring

theorem toNat_raw_le (raw : BitVec 10) : (raw.toNat : ℚ) ≤ 1023 := by
  exact_mod_cast Nat.le_of_lt_succ raw.isLt

/-- 0 °C would be at a raw value strictly between 334 and 335. -/
theorem fracValue_celsius_ne_zero (raw : BitVec 10) : fracValue (celsius raw) ≠ 0 := by
  have hnum : (7345 * raw.toNat - 2458415 : Int) ≠ 0 := by omega
  exact div_ne_zero (Int.cast_ne_zero.2 hnum) (by norm_num [celsius])

theorem fracValue_celsius_lt {raw raw' : BitVec 10} (h : raw < raw') :
    fracValue (celsius raw) < fracValue (celsius raw') := by
  have hraw : (raw.toNat : ℚ) < raw'.toNat := by exact_mod_cast BitVec.lt_def.1 h
  rw [fracValue_celsius, fracValue_celsius]
  linarith

/-- Settles O35: both values are linear in a raw field of at most 1023. -/
theorem scaledValuesAreExact : Obligations.ScaledValuesAreExact := by
  intro cfg frame r h
  obtain ⟨⟨hamps, hcelsius⟩, -⟩ := decodeFields_computed h
  have hcur := toNat_raw_le r.curRaw
  have htmp := toNat_raw_le r.tmpRaw
  have htmp0 : (0 : ℚ) ≤ r.tmpRaw.toNat := Nat.cast_nonneg _
  rw [hamps, hcelsius]
  refine ⟨fracValue_amps _, fracValue_celsius _, ?_, ?_, ?_, ?_, fracValue_celsius_ne_zero _, ?_⟩
  · rw [fracValue_amps]
    positivity
  · rw [fracValue_amps]
    gcongr
  · rw [fracValue_celsius]
    linarith
  · rw [fracValue_celsius]
    linarith
  · intro frame' r' h' hlt
    obtain ⟨⟨-, hcelsius'⟩, -⟩ := decodeFields_computed h'
    rw [hcelsius']
    exact fracValue_celsius_lt hlt

/-! ## The fault booleans under `NONZERO` (R164, R166) -/

/-- A mask of one bit keeps that bit, so the masked value is not zero exactly if the bit is set. -/
theorem faultFlag_nonzero_twoPow (statusByte : Byte) {i : Nat} (hi : i < 8) :
    faultFlag .nonzero statusByte (BitVec.twoPow 8 i) = statusByte.getLsbD i := by
  have hmask : BitVec.twoPow 8 i ≠ 0#8 := fun hzero => by
    simpa [BitVec.toNat_twoPow_of_lt hi] using congrArg BitVec.toNat hzero
  rw [faultFlag, BitVec.and_twoPow]
  cases statusByte.getLsbD i <;> simp [hmask]

/-- Settles O38: the four masks are bits 4, 3, 2 and 1. -/
theorem nonzeroPolicyReportsTheStatusBits : Obligations.NonzeroPolicyReportsTheStatusBits := by
  intro cfg frame r hpolicy h
  obtain ⟨-, hleak, hspeed, htemp, hcurrent⟩ := decodeFields_computed h
  rw [hpolicy] at hleak hspeed htemp hcurrent
  exact ⟨hleak.trans (faultFlag_nonzero_twoPow _ (i := 4) (by decide)),
    hspeed.trans (faultFlag_nonzero_twoPow _ (i := 3) (by decide)),
    htemp.trans (faultFlag_nonzero_twoPow _ (i := 2) (by decide)),
    hcurrent.trans (faultFlag_nonzero_twoPow _ (i := 1) (by decide))⟩

end Sys2Proof.Proofs
end

section
/-! PROOFS. The outcome family (60_exceptions.md): which outcome an operation ends with (R190, R195), what a failure
clears (R200), and that no failure is sticky (R202). -/

namespace Sys2Proof.Proofs

open Sys2Proof.Machine Sys2Proof.Safety Sys2Proof.Laws

/-! ## The failures and their conditions (R190, R195) -/

/-- The table of R190 with the priority of R195: the failure of an instruction in a state, with its cause. -/
inductive Fails (s : State) : Instr → Status → Cause → Prop
  | alreadyBound {id : Nat} (hbound : s.bound = true) : Fails s (.bind id) .alreadyBound .noCause
  | invalidConfiguration {id : Nat} (hunbound : s.bound = false) (hid : id < 1 ∨ 7 < id) :
      Fails s (.bind id) .invalidConfiguration .noCause
  | notBound {rpmOk : Bool} {rpm : Int} {dir : DirField} {mode : Mode} (hunbound : s.bound = false) :
      Fails s (.encode rpmOk rpm dir mode) .notBound .noCause
  | badRpm {rpm : Int} {dir : DirField} {mode : Mode} (hbound : s.bound = true) :
      Fails s (.encode false rpm dir mode) .invalidCommand .rpm
  | badDirection {rpm : Int} {dir : DirField} {mode : Mode} (hbound : s.bound = true)
      (hdir : dir = .dir2 ∨ dir = .dir3) : Fails s (.encode true rpm dir mode) .invalidCommand .dir
  | noData {form : Form} (hlen : s.ibufLen ≤ 19) : Fails s (.decode form) .noData .noCause
  | badLength (hlen : s.ibufLen ≠ 43) : Fails s .csum .badLength .noCause

section
variable {i : Instr} {s t : State} {st : Status} {c : Cause}

/-- A failure's one effect is the `raise` of its own operation (R200). -/
theorem exec_of_fails (hfail : Fails s i st c) : exec i s = .next (raise (operationOf i) st c s) := by
  cases hfail with
  | alreadyBound hbound => exact exec_bind_of_bound hbound _
  | invalidConfiguration hunbound hid => exact exec_bind_of_invalid hunbound hid
  | notBound hunbound => exact congrArg Host.Outcome.next (encodeWith_of_unbound _ _ _ hunbound _ _)
  | badRpm hbound => exact congrArg Host.Outcome.next (encodeWith_of_bad_rpm _ _ _ hbound _)
  | badDirection hbound hdir =>
    exact congrArg Host.Outcome.next (encodeWith_of_unrecognised _ _ _ hbound ((recognised_eq_none_iff _).2 hdir))
  | noData hlen => exact exec_decode_of_short hlen _
  | badLength hlen => exact exec_csum_of_length_ne hlen

/-- The table is complete: an operation that fails in no listed way ends with `OK` and cause 0. -/
theorem exec_fails_or_completes (h : exec i s = .next t) :
    (∃ st c, Fails s i st c) ∨ (t.status = 0#3 ∧ t.cause = 0#2) := by
  cases i with
  | bind id =>
    obtain ⟨hbound, -⟩ | ⟨hunbound, hid, -⟩ | ⟨-, -, hs⟩ := execBind_cases id s
    · exact .inl ⟨_, _, .alreadyBound hbound⟩
    · exact .inl ⟨_, _, .invalidConfiguration hunbound (by omega)⟩
    · cases hs.symm.trans h
      exact .inr ⟨rfl, rfl⟩
  | encode rpmOk rpm dir mode =>
    obtain ⟨hunbound, -⟩ | ⟨hbound, rfl, -⟩ | ⟨hbound, rfl, hdir, -⟩ | ⟨d, -, -, -, hs⟩ :=
      encodeWith_cases decidedConfig rpmOk rpm dir mode s
    · exact .inl ⟨_, _, .notBound hunbound⟩
    · exact .inl ⟨_, _, .badRpm hbound⟩
    · exact .inl ⟨_, _, .badDirection hbound ((recognised_eq_none_iff dir).1 hdir)⟩
    · cases h
      rw [hs]
      exact .inr ⟨rfl, rfl⟩
  | decode form =>
    obtain ⟨hlen, -, -⟩ | ⟨r, -, -, -, hs⟩ | ⟨r, -, -, -, hs⟩ := decodeWith_cases decidedConfig form s
    · exact .inl ⟨_, _, .noData hlen⟩
    · cases h
      rw [hs]
      exact .inr ⟨rfl, rfl⟩
    · cases h
      rw [hs]
      exact .inr ⟨rfl, rfl⟩
  | csum =>
    obtain ⟨hlen, -⟩ | ⟨-, hs⟩ := execCsum_cases s
    · exact .inl ⟨_, _, .badLength hlen⟩
    · cases hs.symm.trans h
      exact .inr ⟨rfl, rfl⟩

theorem statusCode_injective : Function.Injective statusCode := by
  intro st st' h
  cases st <;> cases st' <;> simp [statusCode] at h ⊢

theorem causeCode_injective : Function.Injective causeCode := by
  intro c c' h
  cases c <;> cases c' <;> simp [causeCode] at h ⊢

/-- An operation ends with the codes of a failure exactly if it fails that way. -/
theorem exec_codes_iff (h : exec i s = .next t) (hst : st ≠ .ok) :
    t.status = statusCode st ∧ t.cause = causeCode c ↔ Fails s i st c := by
  refine ⟨fun ⟨hstatus, hcause⟩ => ?_, fun hfail => ?_⟩
  · obtain ⟨st', c', hfail⟩ | ⟨hok, -⟩ := exec_fails_or_completes h
    · cases (exec_of_fails hfail).symm.trans h
      cases statusCode_injective hstatus
      cases causeCode_injective hcause
      exact hfail
    · exact absurd (statusCode_injective (hstatus.symm.trans hok : _ = statusCode .ok)) hst
  · cases (exec_of_fails hfail).symm.trans h
    exact ⟨rfl, rfl⟩

/-- The reserved codes are never produced, and the cause is 0 except for `InvalidCommand` (R190). -/
theorem exec_codes_legal (h : exec i s = .next t) :
    t.status ≠ 7#3 ∧ t.cause ≠ 3#2 ∧ (t.status ≠ 2#3 → t.cause = 0#2) ∧ (t.status = 2#3 → t.cause ≠ 0#2) := by
  obtain ⟨st, c, hfail⟩ | ⟨hstatus, hcause⟩ := exec_fails_or_completes h
  · cases (exec_of_fails hfail).symm.trans h
    rw [raise_status, raise_cause]
    cases hfail <;> decide
  · rw [hstatus, hcause]
    decide

/-- Except for `InvalidCommand`, the status alone tells the failure. -/
theorem exec_status_iff (h : exec i s = .next t) (hst : st ≠ .ok) (hcommand : st ≠ .invalidCommand) :
    t.status = statusCode st ↔ Fails s i st .noCause := by
  obtain ⟨-, -, hcause, -⟩ := exec_codes_legal h
  rw [← exec_codes_iff h hst]
  refine ⟨fun hstatus => ⟨hstatus, hcause fun htwo => hcommand ?_⟩, And.left⟩
  exact statusCode_injective (hstatus.symm.trans htwo : _ = statusCode .invalidCommand)

/-- A status other than `OK` is a failure, and the next state is the `raise` of it (R200). -/
theorem exec_eq_raise_of_status_ne (h : exec i s = .next t) (hne : t.status ≠ 0#3) :
    ∃ st c, t = raise (operationOf i) st c s := by
  obtain ⟨st, c, hfail⟩ | ⟨hok, -⟩ := exec_fails_or_completes h
  · cases (exec_of_fails hfail).symm.trans h
    exact ⟨st, c, rfl⟩
  · exact absurd hok hne

end

/-- Settles O50: each listed condition is one line of the table, and an outcome has the codes of its line only. -/
theorem outcomesArePreciselyTheListed : Obligations.OutcomesArePreciselyTheListed := by
  intro i s t h
  refine ⟨?alreadyBound, ?invalidConfiguration, ?notBound, ?badRpm, ?badDirection, ?noData, ?badLength,
    exec_codes_legal h⟩
  case alreadyBound =>
    exact (exec_status_iff (st := .alreadyBound) h nofun nofun).trans
      ⟨fun (.alreadyBound hbound) => ⟨_, rfl, hbound⟩, fun ⟨_, hi, hbound⟩ => hi ▸ .alreadyBound hbound⟩
  case invalidConfiguration =>
    exact (exec_status_iff (st := .invalidConfiguration) h nofun nofun).trans
      ⟨fun (.invalidConfiguration hunbound hid) => ⟨_, rfl, hunbound, hid⟩,
        fun ⟨_, hi, hunbound, hid⟩ => hi ▸ .invalidConfiguration hunbound hid⟩
  case notBound =>
    exact (exec_status_iff (st := .notBound) h nofun nofun).trans
      ⟨fun (.notBound hunbound) => ⟨_, _, _, _, rfl, hunbound⟩,
        fun ⟨_, _, _, _, hi, hunbound⟩ => hi ▸ .notBound hunbound⟩
  case badRpm =>
    exact (exec_codes_iff (st := .invalidCommand) (c := .rpm) h nofun).trans
      ⟨fun (.badRpm hbound) => ⟨_, _, _, rfl, hbound⟩, fun ⟨_, _, _, hi, hbound⟩ => hi ▸ .badRpm hbound⟩
  case badDirection =>
    exact (exec_codes_iff (st := .invalidCommand) (c := .dir) h nofun).trans
      ⟨fun (.badDirection hbound hdir) => ⟨_, _, _, rfl, hbound, hdir⟩,
        fun ⟨_, _, _, hi, hbound, hdir⟩ => hi ▸ .badDirection hbound hdir⟩
  case noData =>
    exact (exec_status_iff (st := .noData) h nofun nofun).trans
      ⟨fun (.noData hlen) => ⟨_, rfl, hlen⟩, fun ⟨_, hi, hlen⟩ => hi ▸ .noData hlen⟩
  case badLength =>
    exact (exec_status_iff (st := .badLength) h nofun nofun).trans
      ⟨fun (.badLength hlen) => ⟨rfl, hlen⟩, fun ⟨hi, hlen⟩ => hi ▸ .badLength hlen⟩

/-! ## What a failure clears (R200) -/

/-- Settles O51: a failure is a `raise`, whose clearing is written out operation by operation. -/
theorem failureClearsItsOwnUnitOnly : Obligations.FailureClearsItsOwnUnitOnly := by
  intro i s t h hne
  obtain ⟨st, c, rfl⟩ := exec_eq_raise_of_status_ne h hne
  rw [raise_eq]
  cases i <;> rfl

/-! ## No failure is sticky (R202) -/

/-- `BIND` looks at `BOUND` only (R120), and the binding it leaves comes from the old one and the id. -/
theorem bind_results_congr {s s' t t' : State} {id : Nat} (hbound : s.bound = s'.bound) (htid : s.tid = s'.tid)
    (ht : exec (.bind id) s = .next t) (ht' : exec (.bind id) s' = .next t') :
    t.status = t'.status ∧ t.cause = t'.cause ∧ t.bound = t'.bound ∧ t.tid = t'.tid := by
  obtain ⟨hb, hs⟩ | ⟨hb, hid, hs⟩ | ⟨hb, ⟨hmin, hmax⟩, hs⟩ := execBind_cases id s
  · cases hs.symm.trans ht
    cases (exec_bind_of_bound (hbound ▸ hb) id).symm.trans ht'
    exact ⟨rfl, rfl, hbound, htid⟩
  · cases hs.symm.trans ht
    cases (exec_bind_of_invalid (hbound ▸ hb) (by omega)).symm.trans ht'
    exact ⟨rfl, rfl, hbound, htid⟩
  · cases hs.symm.trans ht
    cases (exec_bind_of_valid (hbound ▸ hb) hmin hmax).symm.trans ht'
    exact ⟨rfl, rfl, rfl, rfl⟩

/-- Only `BIND` writes the binding (10_state.md R32). -/
theorem exec_keeps_binding {i : Instr} {s t : State} (hop : operationOf i ≠ .bind) (h : exec i s = .next t) :
    t.bound = s.bound ∧ t.tid = s.tid := by
  obtain hkeep | ⟨id, rfl, -⟩ := exec_binding h
  · exact hkeep
  · exact absurd rfl hop

/-- Settles O54: a failure leaves the binding and the input buffer as they were, and every operation's outcome and
results are functions of these. -/
theorem failuresAreNotSticky : Obligations.FailuresAreNotSticky := by
  intro i j s t u v hi hne hu hv
  obtain ⟨st, c, rfl⟩ := exec_eq_raise_of_status_ne hi hne
  have hbound := raise_bound (operationOf i) st c s
  have htid := raise_tid (operationOf i) st c s
  obtain ⟨hencode, hread⟩ := resultsAreFunctionsOfTheirInputs (raise (operationOf i) st c s) s v u
  obtain ⟨hdecode, hcsum⟩ := hread (raise_ibufLen _ _ _ _) fun a _ =>
    byteAt_ibuf_congr (raise_ibuf _ _ _ _) (raise_ibufEpoch _ _ _ _) a
  have hbinding (hop : operationOf j ≠ .bind) : v.bound = u.bound ∧ v.tid = u.tid := by
    obtain ⟨hbu, htu⟩ := exec_keeps_binding hop hu
    obtain ⟨hbv, htv⟩ := exec_keeps_binding hop hv
    exact ⟨(hbv.trans hbound).trans hbu.symm, (htv.trans htid).trans htu.symm⟩
  cases j with
  | bind id =>
    obtain ⟨hstatus, hcause, hb, ht⟩ := bind_results_congr hbound htid hv hu
    exact ⟨hstatus, hcause, hb, ht, nofun, nofun, nofun⟩
  | encode rpmOk rpm dir mode =>
    obtain ⟨hpkt, hvalid, hstatus, hcause⟩ := hencode rpmOk rpm dir mode hbound htid hv hu
    obtain ⟨hb, ht⟩ := hbinding nofun
    exact ⟨hstatus, hcause, hb, ht, fun _ => ⟨hpkt, hvalid⟩, nofun, nofun⟩
  | decode form =>
    obtain ⟨hreply, hstatus, hcause⟩ := hdecode form hv hu
    obtain ⟨hb, ht⟩ := hbinding nofun
    exact ⟨hstatus, hcause, hb, ht, nofun, fun _ => hreply, nofun⟩
  | csum =>
    obtain ⟨hcsr, hvalid, hstatus, hcause⟩ := hcsum hv hu
    obtain ⟨hb, ht⟩ := hbinding nofun
    exact ⟨hstatus, hcause, hb, ht, nofun, nofun, fun _ => ⟨hcsr, hvalid⟩⟩

end Sys2Proof.Proofs
end

section
/-! PROOFS. The request word both ways (30_encoding.md R70 to R77): decoding an encoded instruction, encoding a decoded
word, and assembled lines. -/

namespace Sys2Proof.Proofs

open Sys2Proof.Machine Sys2Proof.Safety Sys2Proof.Laws

/-! ## Decoding an encoded instruction -/

theorem dirFieldOfBits_bitsOfDirField (dir : DirField) :
    dirFieldOfBits ((bitsOfDirField dir).getLsbD 1) ((bitsOfDirField dir).getLsbD 0) = dir := by
  cases dir <;> rfl

theorem modeOfBit_bitOfMode (mode : Mode) : modeOfBit ((bitOfMode mode).getLsbD 0) = mode := by
  cases mode <;> rfl

theorem formOfBit_bitOfForm (form : Form) : formOfBit ((bitOfForm form).getLsbD 0) = form := by
  cases form <;> rfl

/-! Each operand comes back as its field holds it: `id` modulo `2 ^ 8`, `rpm` modulo `2 ^ 32` (R75). -/

theorem decodeRequest_encodeRequest_bind (id : Nat) : decodeRequest (encodeRequest (.bind id)) = .bind (id % 256) := by
  simp only [decodeRequest, encodeRequest, BitVec.getLsbD_append, BitVec.extractLsb'_append_eq_right]
  simp

theorem decodeRequest_encodeRequest_encode (rpmOk : Bool) (rpm : Int) (dir : DirField) (mode : Mode) :
    decodeRequest (encodeRequest (.encode rpmOk rpm dir mode)) = .encode rpmOk (rpm.bmod (2 ^ 32)) dir mode := by
  simp only [decodeRequest, encodeRequest, BitVec.getLsbD_append, BitVec.extractLsb'_append_eq_right]
  simp [-BitVec.getLsbD_eq_getElem, dirFieldOfBits_bitsOfDirField, modeOfBit_bitOfMode]

theorem decodeRequest_encodeRequest_decode (form : Form) :
    decodeRequest (encodeRequest (.decode form)) = .decode form := by
  simp only [decodeRequest, encodeRequest, BitVec.getLsbD_append]
  simp [-BitVec.getLsbD_eq_getElem, formOfBit_bitOfForm]

theorem decodeRequest_encodeRequest_csum : decodeRequest (encodeRequest .csum) = .csum := rfl

/-- Settles O1: instruction by instruction; a well-formed operand is its field's value. -/
theorem decodeOfEncodeIsIdentity : Obligations.DecodeOfEncodeIsIdentity := by
  intro i hwf
  cases i with
  | bind id =>
    have hid : id ≤ 255 := of_decide_eq_true hwf
    rw [decodeRequest_encodeRequest_bind, Nat.mod_eq_of_lt (by omega)]
  | encode rpmOk rpm dir mode =>
    have hrpm : -2147483648 ≤ rpm ∧ rpm ≤ 2147483647 := by simpa [Instr.wf] using hwf
    rw [decodeRequest_encodeRequest_encode, Int.bmod_eq_of_le (by omega) (by omega)]
  | decode form => exact decodeRequest_encodeRequest_decode form
  | csum => exact decodeRequest_encodeRequest_csum

/-! ## Encoding a decoded word -/

/-! The fields of a word, as its bits. -/

theorem ofBool_getLsbD (w : Request) (i : Nat) : BitVec.ofBool (w.getLsbD i) = w.extractLsb' i 1 := by
  apply BitVec.eq_of_toNat_eq
  rw [BitVec.toNat_ofBool, toNat_getLsbD, BitVec.extractLsb'_toNat, Nat.shiftRight_eq_div_pow, pow_one]

theorem append_ofBool_getLsbD (w : Request) (i : Nat) :
    BitVec.ofBool (w.getLsbD (i + 1)) ++ BitVec.ofBool (w.getLsbD i) = w.extractLsb' i 2 := by
  rw [ofBool_getLsbD, ofBool_getLsbD, BitVec.extractLsb'_append_extractLsb'_eq_extractLsb' rfl]

theorem bitsOfDirField_dirFieldOfBits (w : Request) (i : Nat) :
    bitsOfDirField (dirFieldOfBits (w.getLsbD (i + 1)) (w.getLsbD i)) = w.extractLsb' i 2 := by
  rw [← append_ofBool_getLsbD]
  cases w.getLsbD (i + 1) <;> cases w.getLsbD i <;> rfl

theorem bitOfMode_modeOfBit (w : Request) (i : Nat) : bitOfMode (modeOfBit (w.getLsbD i)) = w.extractLsb' i 1 := by
  rw [← ofBool_getLsbD]
  cases w.getLsbD i <;> rfl

theorem bitOfForm_formOfBit (w : Request) (i : Nat) : bitOfForm (formOfBit (w.getLsbD i)) = w.extractLsb' i 1 := by
  rw [← ofBool_getLsbD]
  cases w.getLsbD i <;> rfl

/-- Clearing the middle field of a word. -/
theorem and_allOnes_append_zero_append_allOnes {n k m : Nat} (w : BitVec (n + k + m)) :
    w &&& (BitVec.allOnes n ++ 0#k ++ BitVec.allOnes m) = w.extractLsb' (m + k) n ++ 0#k ++ w.extractLsb' 0 m := by
  have hcut : w = w.extractLsb' (m + k) n ++ w.extractLsb' m k ++ w.extractLsb' 0 m := by
    rw [BitVec.extractLsb'_append_extractLsb'_eq_extractLsb' rfl,
      BitVec.extractLsb'_append_extractLsb'_eq_extractLsb' (Nat.zero_add m).symm, BitVec.extractLsb'_eq_self]
  calc w &&& (BitVec.allOnes n ++ 0#k ++ BitVec.allOnes m)
      = (w.extractLsb' (m + k) n ++ w.extractLsb' m k ++ w.extractLsb' 0 m) &&&
          (BitVec.allOnes n ++ 0#k ++ BitVec.allOnes m) := by rw [← hcut]
    _ = w.extractLsb' (m + k) n ++ 0#k ++ w.extractLsb' 0 m := by
      simp only [BitVec.and_append, BitVec.and_allOnes, BitVec.and_zero]

/-- Format by format, the encoder puts each field back where the decoder found it. -/
theorem encodeRequest_decodeRequest (w : Request) : encodeRequest (decodeRequest w) = w &&& definedBits w := by
  have hop := append_ofBool_getLsbD w 38
  unfold decodeRequest definedBits
  cases h39 : w.getLsbD 39 <;> cases h38 : w.getLsbD 38 <;> rw [h39, h38] at hop
  · refine Eq.trans ?_ (and_allOnes_append_zero_append_allOnes (n := 2) (k := 30) (m := 8) w).symm
    simp only [encodeRequest, BitVec.ofNat_toNat, BitVec.setWidth_eq, ← hop]
    rfl
  · refine Eq.trans ?_ (and_allOnes_append_zero_append_allOnes (n := 6) (k := 2) (m := 32) w).symm
    have hfields : w.extractLsb' 34 6 = 0b01#2 ++ w.extractLsb' 37 1 ++ w.extractLsb' 36 1 ++ w.extractLsb' 34 2 := by
      rw [show 0b01#2 = w.extractLsb' 38 2 from hop]
      simp (disch := decide) only [BitVec.extractLsb'_append_extractLsb'_eq_extractLsb']
    simp only [encodeRequest, bitsOfDirField_dirFieldOfBits, bitOfMode_modeOfBit, ofBool_getLsbD,
      BitVec.ofInt_toInt, hfields]
  · refine Eq.trans ?_ (and_allOnes_append_zero_append_allOnes (n := 2) (k := 37) (m := 1) w).symm
    simp only [encodeRequest, bitOfForm_formOfBit, ← hop]
    rfl
  · refine Eq.trans ?_ (and_allOnes_append_zero_append_allOnes (n := 2) (k := 38) (m := 0) w).symm
    simp only [encodeRequest, ← hop, BitVec.eq_nil (w.extractLsb' 0 0)]
    rfl

/-- What a word carries, its fields can hold (30_encoding.md R75). -/
theorem wf_decodeRequest (w : Request) : (decodeRequest w).wf = true := by
  obtain ⟨-, hdec⟩ | ⟨-, hdec⟩ | ⟨-, hdec⟩ | ⟨-, hdec⟩ := decodeRequest_cases w <;> rw [hdec]
  · have := (w.extractLsb' 0 8).isLt
    exact decide_eq_true (by omega)
  · have hlo := (w.extractLsb' 0 32).le_toInt
    have hhi := (w.extractLsb' 0 32).toInt_lt
    simp only [Instr.wf, Bool.and_eq_true, decide_eq_true_eq]
    omega
  · rfl
  · rfl

/-- Settles O2: the masks of the four formats keep exactly the fields the encoder writes. -/
theorem encodeOfDecodeClearsReservedBits : Obligations.EncodeOfDecodeClearsReservedBits :=
  fun w => ⟨encodeRequest_decodeRequest w, wf_decodeRequest w⟩

/-! ## Listed words and assembled lines -/

/-- Settles O6: six closed words. -/
theorem listedWordsDecodeAsListed : Obligations.ListedWordsDecodeAsListed :=
  ⟨rfl, rfl, rfl, rfl, rfl, rfl⟩

/-- A line that is an instruction is assembled by the encoder. -/
theorem lineAction_of_lineInstr {line : AsmLine} {i : Instr} (h : lineInstr line = some i) :
    lineAction line = .request (encodeRequest i) := by
  cases line with
  | bind id => cases h; rfl
  | encode rpm dir mode => cases rpm <;> cases h <;> rfl
  | decode form => cases h; rfl
  | csum => cases h; rfl
  | ibuf bytes => cases h
  | reset => cases h

/-- Settles O7: the word decodes to the instruction it encodes, so encoding what it decodes to clears nothing. -/
theorem assembledLinesDecodeToTheirInstruction : Obligations.AssembledLinesDecodeToTheirInstruction := by
  intro line i hline hwf
  have hdec := decodeOfEncodeIsIdentity i hwf
  refine ⟨encodeRequest i, lineAction_of_lineInstr hline, hdec, ?_⟩
  rw [← encodeRequest_decodeRequest, hdec]

end Sys2Proof.Proofs
end

section
/-! PROOFS. Steps and operations: what a step does with each host action (log 1), what an operation leaves and what it
does not touch (10_state.md R32, 20_memory.md R52, R55, 60_exceptions.md R200). -/

namespace Sys2Proof.Proofs

open Sys2Proof.Machine Sys2Proof.Safety Sys2Proof.Laws

/-! ## A step, by the host action it does -/

section
variable {s : State} {rest : List HostAction}

theorem step_of_nil (h : s.stream = []) : step s = .next (silent s) := by
  simp [step, nextAction, h]

theorem step_of_request {w : Request} (h : s.stream = .request w :: rest) :
    step s = exec (decodeRequest w) { s with stream := rest } := by
  simp [step, nextAction, h]

theorem step_of_nextIsReset (h : s.stream = .reset :: rest ∨ ∃ w, s.stream = .requestThenReset w :: rest) :
    step s = .next (applyReset { s with stream := rest }) := by
  obtain h | ⟨w, h⟩ := h <;> simp [step, nextAction, h]

theorem step_of_fill {bytes : List Byte} (h : s.stream = .fill bytes :: rest) :
    step s = .next (silent (fillInput decidedConfig bytes { s with stream := rest })) := by
  simp [step, nextAction, h, hostFill]

theorem step_of_writeByte_lt {off : Nat} {b : Byte} (h : s.stream = .writeByte off b :: rest)
    (hoff : off < decidedConfig.frameMax) : step s = .next (silent (putByte off b { s with stream := rest })) := by
  simp [step, nextAction, h, hostWriteByte, hoff]

theorem step_of_writeByte_ge {off : Nat} {b : Byte} (h : s.stream = .writeByte off b :: rest)
    (hoff : decidedConfig.frameMax ≤ off) : step s = .fault .ibufOffset := by
  simp [step, nextAction, h, hostWriteByte, Nat.not_lt.2 hoff]

theorem step_of_setLen_le {n : Nat} (h : s.stream = .setLen n :: rest) (hn : n ≤ decidedConfig.frameMax) :
    step s = .next (silent (setLength n { s with stream := rest })) := by
  simp [step, nextAction, h, hostSetLen, hn]

theorem step_of_setLen_gt {n : Nat} (h : s.stream = .setLen n :: rest) (hn : decidedConfig.frameMax < n) :
    step s = .fault .ibufLength := by
  simp [step, nextAction, h, hostSetLen, Nat.not_le.2 hn]

end

/-! ## What an operation leaves (60_exceptions.md R200) -/

/-- What an operation does to the registers, before it answers: its failure's clearing, or its result. -/
inductive Effect (s : State) : Operation → State → Prop
  | failure (op : Operation) : Effect s op (clearResults op s)
  | binding {id : Nat} (hunbound : s.bound = false) (hmin : 1 ≤ id) (hmax : id ≤ 7) : Effect s .bind (setBinding id s)
  | packet {p : Vector Byte 44} (hbound : s.bound = true)
      (hp : ∃ rpm d m, p = encodePacket decidedConfig s.tid.toNat rpm d m) : Effect s .encode (writePacket p s)
  | telemetry {regs : TelRegs}
      (hregs : ∃ r, decodeFields decidedConfig (replyFrame s) = some r ∧ regs = telRegsOf decidedConfig r) :
      Effect s .decode (writeTelemetry regs s)
  | text {record : List Byte}
      (hrecord : ∃ r, decodeFields decidedConfig (replyFrame s) = some r ∧ record = render decidedConfig r) :
      Effect s .decode (writeText record s)
  | checksum {b : Byte} (hb : b = csum (checksumBody s)) : Effect s .csum (writeChecksum b s)

/-- Every operation in every state answers, with the effect of its own unit. -/
theorem exec_effect (i : Instr) (s : State) :
    ∃ st c u, Effect s (operationOf i) u ∧ exec i s = .next (respond st c u) := by
  cases i with
  | bind id =>
    obtain ⟨-, hs⟩ | ⟨-, -, hs⟩ | ⟨hunbound, ⟨hmin, hmax⟩, hs⟩ := execBind_cases id s
    · exact ⟨_, _, _, .failure .bind, hs⟩
    · exact ⟨_, _, _, .failure .bind, hs⟩
    · exact ⟨_, _, _, .binding hunbound hmin hmax, hs⟩
  | encode rpmOk rpm dir mode =>
    rw [exec_encode]
    obtain ⟨-, hs⟩ | ⟨-, -, hs⟩ | ⟨-, -, -, hs⟩ | ⟨d, hbound, -, -, hs⟩ :=
      encodeWith_cases decidedConfig rpmOk rpm dir mode s <;> rw [hs]
    · exact ⟨_, _, _, .failure .encode, rfl⟩
    · exact ⟨_, _, _, .failure .encode, rfl⟩
    · exact ⟨_, _, _, .failure .encode, rfl⟩
    · exact ⟨_, _, _, .packet hbound ⟨rpm, d, mode, rfl⟩, rfl⟩
  | decode form =>
    rw [exec_decode]
    obtain ⟨-, -, hs⟩ | ⟨r, -, hr, -, hs⟩ | ⟨r, -, hr, -, hs⟩ := decodeWith_cases decidedConfig form s <;> rw [hs]
    · exact ⟨_, _, _, .failure .decode, rfl⟩
    · exact ⟨_, _, _, .telemetry ⟨r, hr, rfl⟩, rfl⟩
    · exact ⟨_, _, _, .text ⟨r, hr, rfl⟩, rfl⟩
  | csum =>
    obtain ⟨-, hs⟩ | ⟨-, hs⟩ := execCsum_cases s
    · exact ⟨_, _, _, .failure .csum, hs⟩
    · exact ⟨_, _, _, .checksum rfl, hs⟩

/-- The same of an operation that answered `t`. -/
theorem effect_of_exec {i : Instr} {s t : State} (h : exec i s = .next t) :
    ∃ st c u, Effect s (operationOf i) u ∧ t = respond st c u := by
  obtain ⟨st, c, u, heffect, hs⟩ := exec_effect i s
  cases hs.symm.trans h
  exact ⟨st, c, u, heffect, rfl⟩

/-! ## Frames: each register is written by its own operation only (10_state.md R32) -/

section
variable {s u : State} {op : Operation}

theorem Effect.keeps_input (h : Effect s op u) :
    u.ibuf = s.ibuf ∧ u.ibufLen = s.ibufLen ∧ u.ibufEpoch = s.ibufEpoch ∧ u.stream = s.stream := by
  cases h with
  | failure => cases op <;> exact ⟨rfl, rfl, rfl, rfl⟩
  | _ => exact ⟨rfl, rfl, rfl, rfl⟩

theorem Effect.keeps_packet (h : Effect s op u) (hop : op ≠ .encode) :
    u.pkt = s.pkt ∧ u.pktValid = s.pktValid := by
  cases h with
  | failure =>
    cases op with
    | encode => exact absurd rfl hop
    | _ => exact ⟨rfl, rfl⟩
  | packet => exact absurd rfl hop
  | _ => exact ⟨rfl, rfl⟩

theorem Effect.keeps_reply (h : Effect s op u) (hop : op ≠ .decode) :
    SameReplyResults u s := by
  cases h with
  | failure =>
    cases op with
    | decode => exact absurd rfl hop
    | _ => exact ⟨rfl, rfl, rfl, rfl⟩
  | telemetry => exact absurd rfl hop
  | text => exact absurd rfl hop
  | _ => exact ⟨rfl, rfl, rfl, rfl⟩

theorem Effect.keeps_checksum (h : Effect s op u) (hop : op ≠ .csum) :
    u.csr = s.csr ∧ u.csrValid = s.csrValid := by
  cases h with
  | failure =>
    cases op with
    | csum => exact absurd rfl hop
    | _ => exact ⟨rfl, rfl⟩
  | checksum => exact absurd rfl hop
  | _ => exact ⟨rfl, rfl⟩

end

/-- Settles O52: an operation's effect is that of its own unit, and answering writes no result register. -/
theorem operationsWriteTheirOwnUnitOnly : Obligations.OperationsWriteTheirOwnUnitOnly := by
  intro i s t h
  have hbinding := fun hop => exec_keeps_binding hop h
  obtain ⟨st, c, u, heffect, rfl⟩ := effect_of_exec h
  obtain ⟨hibuf, hlen, hepoch, hstream⟩ := heffect.keeps_input
  refine ⟨hibuf, hlen, hstream, byteAt_ibuf_congr hibuf hepoch, hbinding, fun hop => ?_, fun hop => ?_,
    heffect.keeps_checksum⟩
  · obtain ⟨hpkt, hvalid⟩ := heffect.keeps_packet hop
    exact ⟨hvalid, fun a => congrArg (bufferByte · a) hpkt⟩
  · obtain ⟨htel, hvalid, htxt, htxtLen⟩ := heffect.keeps_reply hop
    exact ⟨htel, hvalid, htxtLen, fun a => congrArg (bufferByte · a) htxt⟩

/-- Settles O10: every operation has an effect and is answered with the codes it leaves. -/
theorem everyRequestIsAnswered : Obligations.EveryRequestIsAnswered := by
  intro i s
  obtain ⟨st, c, u, heffect, hs⟩ := exec_effect i s
  obtain ⟨-, -, -, hstream⟩ := heffect.keeps_input
  exact ⟨_, hs, rfl, hstream⟩

/-! ## The steps of the obligations -/

/-- Settles O8: the step takes the request off the stream and runs it. -/
theorem stepRunsTheDecodedRequest : Obligations.StepRunsTheDecodedRequest :=
  fun _ _ _ h => step_of_request h

/-- Settles O9: a 40-bit number is its own request word, and offering it leaves the rest of the stream. -/
theorem offeredWordRunsNext : Obligations.OfferedWordRunsNext := by
  intro s w hw
  rw [State.withFetchWord, Nat.mod_eq_of_lt hw, step_of_request (offerFirst_stream s _)]
  rfl

/-- Settles O12: with an empty stream only the response is cleared. -/
theorem blockWaitsForTheHost : Obligations.BlockWaitsForTheHost :=
  fun _ h => step_of_nil h

/-- Settles O13: both reset actions give the reset state's registers. -/
theorem resetGivesEveryRegisterItsResetValue : Obligations.ResetGivesEveryRegisterItsResetValue := by
  intro s rest h
  obtain ⟨hbound, htid, hpkt, hpktValid, htelValid, htel, htxt, htxtLen, hcsr, hcsrValid, hstatus, hcause, hlen⟩ :=
    resetStateHasTheResetValues
  exact ⟨_, step_of_nextIsReset h, hbound, htid, hpkt, hpktValid, htelValid, htel, htxt, htxtLen, hcsr, hcsrValid,
    hstatus, hcause, hlen, rfl, rfl⟩

/-- Settles O11: by the host action of the step; a request is always answered. -/
theorem stepStopsOnlyBeyondFrameMax : Obligations.StepStopsOnlyBeyondFrameMax := by
  intro s
  refine ⟨fun off b rest => step_of_writeByte_ge, fun n rest => step_of_setLen_gt, ?_⟩
  cases hstream : s.stream with
  | nil => exact .inl ⟨_, step_of_nil hstream⟩
  | cons a rest =>
    cases a with
    | reset => exact .inl ⟨_, step_of_nextIsReset (.inl hstream)⟩
    | fill bytes => exact .inl ⟨_, step_of_fill hstream⟩
    | writeByte off b =>
      rcases Nat.lt_or_ge off decidedConfig.frameMax with hoff | hoff
      · exact .inl ⟨_, step_of_writeByte_lt hstream hoff⟩
      · exact .inr (.inl ⟨off, b, rest, rfl, hoff, step_of_writeByte_ge hstream hoff⟩)
    | setLen n =>
      rcases le_or_gt n decidedConfig.frameMax with hn | hn
      · exact .inl ⟨_, step_of_setLen_le hstream hn⟩
      · exact .inr (.inr ⟨n, rest, rfl, hn, step_of_setLen_gt hstream hn⟩)
    | request w =>
      obtain ⟨t, ht, -⟩ := everyRequestIsAnswered (decodeRequest w) { s with stream := rest }
      exact .inl ⟨t, (step_of_request hstream).trans ht⟩
    | requestThenReset w => exact .inl ⟨_, step_of_nextIsReset (.inr ⟨w, hstream⟩)⟩

/-! ## The input buffer after a host action (20_memory.md R52, 10_state.md R40) -/

theorem byteAt_fillInput_inside (cfg : Config) (s : State) {bytes : List Byte} {k : Nat} {b : Byte}
    (hk : k < cfg.frameMax) (hb : bytes[k]? = some b) : byteAt (fillInput cfg bytes s) .ibuf k = b := by
  obtain ⟨hlen, hget⟩ := List.getElem?_eq_some_iff.1 hb
  have hwritten := get?_writeList_inside s.ibuf 0 (bytes.take cfg.frameMax) (k := k) (by simp [hk, hlen])
  rw [Nat.zero_add] at hwritten
  simp [byteAt, hwritten, hget]

theorem byteAt_fillInput_outside (cfg : Config) (s : State) {bytes : List Byte} {k : Nat}
    (hk : (bytes.take cfg.frameMax).length ≤ k) : byteAt (fillInput cfg bytes s) .ibuf k = byteAt s .ibuf k := by
  simp only [byteAt, fillInput_ibuf, fillInput_ibufEpoch]
  rw [get?_writeList_outside _ _ (.inr (by simpa using hk))]

/-- Settles O15: the bytes of a fill stand at the offsets below its length, the others are untouched. -/
theorem fillPutsTheBytesInTheInputBuffer : Obligations.FillPutsTheBytesInTheInputBuffer := by
  intro s bytes rest h
  have hlen : (bytes.take decidedConfig.frameMax).length = min bytes.length decidedConfig.frameMax := by
    rw [List.length_take, Nat.min_comm]
  refine ⟨_, step_of_fill h, ?_, fun k b hk hb => byteAt_fillInput_inside decidedConfig _ hk hb, fun k hk => ?_⟩
  · rw [← hlen]
    rfl
  · exact byteAt_fillInput_outside decidedConfig { s with stream := rest } (hlen ▸ hk)

/-- Settles O16: the laws of one written byte, and of a length. -/
theorem writePortAndLengthPortChangeOneThing : Obligations.WritePortAndLengthPortChangeOneThing := by
  intro s rest
  refine ⟨fun off b h hoff => ⟨_, step_of_writeByte_lt h hoff, rfl, ?_, fun k hk => ?_⟩,
    fun n h hn => step_of_setLen_le h hn⟩
  · simp [byteAt, get?_write_same]
  · simp [byteAt, get?_write_other _ _ hk]

/-! ## Repeating an operation (20_memory.md R55) -/

/-- The tests of `ENCODE` look at `BOUND` and `TID` only, which it keeps, so they fall out alike again. -/
theorem encodeWith_encodeWith (cfg : Config) (rpmOk : Bool) (rpm : Int) (dir : DirField) (mode : Mode) (s : State) :
    encodeWith cfg rpmOk rpm dir mode (encodeWith cfg rpmOk rpm dir mode s) = encodeWith cfg rpmOk rpm dir mode s := by
  obtain ⟨hbound, hs⟩ | ⟨hbound, rfl, hs⟩ | ⟨hbound, rfl, hdir, hs⟩ | ⟨d, hbound, rfl, hdir, hs⟩ :=
    encodeWith_cases cfg rpmOk rpm dir mode s <;> rw [hs]
  · exact encodeWith_of_unbound _ _ _ hbound _ _
  · exact encodeWith_of_bad_rpm _ _ _ hbound _
  · exact encodeWith_of_unrecognised _ _ _ hbound hdir
  · generalize hp : encodePacket cfg s.tid.toNat rpm d mode = p
    have hagain : (respond .ok .noCause (writePacket p s)).bound = true := hbound
    rw [encodeWith_of_recognised _ _ _ hagain hdir, respond_tid, writePacket_tid, hp]
    rfl

/-- `DECODE` looks at the reply frame only, which it keeps. -/
theorem decodeWith_decodeWith (cfg : Config) (form : Form) (s : State) :
    decodeWith cfg form (decodeWith cfg form s) = decodeWith cfg form s := by
  obtain ⟨-, hr, hs⟩ | ⟨r, -, hr, rfl, hs⟩ | ⟨r, -, hr, rfl, hs⟩ := decodeWith_cases cfg form s <;> rw [hs]
  · have hframe : replyFrame (raise .decode .noData .noCause s) = replyFrame s := rfl
    rw [decodeWith, hframe, hr]
    rfl
  · have hframe : replyFrame (respond .ok .noCause (writeTelemetry (telRegsOf cfg r) s)) = replyFrame s := rfl
    rw [decodeWith, hframe, hr]
    rfl
  · have hframe : replyFrame (respond .ok .noCause (writeText (render cfg r) s)) = replyFrame s := rfl
    rw [decodeWith, hframe, hr]
    rfl

/-- `CSUM` looks at `IBUF` only, which it keeps. -/
theorem exec_csum_exec_csum {s t : State} (h : exec .csum s = .next t) : exec .csum t = .next t := by
  obtain ⟨hlen, hs⟩ | ⟨hlen, hs⟩ := execCsum_cases s <;> cases hs.symm.trans h
  · exact exec_csum_of_length_ne hlen
  · generalize hb : csum (checksumBody s) = b
    have hbody : checksumBody (respond .ok .noCause (writeChecksum b s)) = checksumBody s := rfl
    rw [exec_csum_of_length_eq (by exact hlen), hbody, hb]
    rfl

/-- Settles O53: operation by operation; a successful `BIND` leaves the block bound. -/
theorem operationsOtherThanBindAreIdempotent : Obligations.OperationsOtherThanBindAreIdempotent := by
  intro i s t h
  cases i with
  | bind id =>
    refine ⟨fun hop => absurd rfl hop, fun _ hok => ?_⟩
    have hbound : t.bound = true := by
      obtain ⟨-, hs⟩ | ⟨-, -, hs⟩ | ⟨-, -, hs⟩ := execBind_cases id s <;> cases hs.symm.trans h
      · cases hok
      · cases hok
      · rfl
    exact ⟨_, exec_bind_of_bound hbound id, rfl⟩
  | encode rpmOk rpm dir mode =>
    cases h
    exact ⟨fun _ => congrArg Host.Outcome.next (encodeWith_encodeWith _ _ _ _ _ s), nofun⟩
  | decode form =>
    cases h
    exact ⟨fun _ => congrArg Host.Outcome.next (decodeWith_decodeWith _ _ s), nofun⟩
  | csum => exact ⟨fun _ => exec_csum_exec_csum h, nofun⟩

/-! ## Checking a packet with CSUM (40_checksum.md R112, R115) -/

/-- A fill of 43 bytes is the checksum body. -/
theorem checksumBody_fillInput {cfg : Config} (hmax : 43 ≤ cfg.frameMax) {bytes : List Byte} (hlen : bytes.length = 43)
    (s : State) : checksumBody (fillInput cfg bytes s) = bytes := by
  refine List.ext_getElem (by simp [hlen]) fun k hk hk' => ?_
  rw [hlen] at hk'
  simp only [checksumBody, memRead, List.getElem_map, List.getElem_range, Nat.zero_add]
  exact byteAt_fillInput_inside cfg s (hk'.trans_le hmax) (List.getElem?_eq_getElem _)

/-- Settles O49: `CSUM` sums the 43 bytes the host filled in, and byte 43 of the packet is their checksum. -/
theorem hostCanCheckAPacketWithCsum : Obligations.HostCanCheckAPacketWithCsum := by
  intro s rpm dir d mode hbound hdir hmax
  have hvalid := packetsAreChecksumValidUnderEveryConfig.1 decidedConfig s.tid.toNat rpm d mode
  rw [exec_encode, encodeWith_of_recognised _ _ _ hbound hdir]
  generalize encodePacket decidedConfig s.tid.toNat rpm d mode = p at hvalid ⊢
  generalize ht : respond .ok .noCause (writePacket p s) = t
  have hpkt : t.pkt = p ∧ t.pktValid = true := by simp [← ht]
  have hbytes : (t.pkt.toList.take 43).length = 43 := by simp
  have hlen : (silent (fillInput decidedConfig (t.pkt.toList.take 43) t)).ibufLen = 43 := by
    rw [silent_ibufLen, fillInput_ibufLen, List.length_take, hbytes, Nat.min_eq_right hmax]
  have hbody : checksumBody (silent (fillInput decidedConfig (t.pkt.toList.take 43) t)) = t.pkt.toList.take 43 :=
    checksumBody_fillInput hmax hbytes t
  have hcsum := exec_csum_of_length_eq hlen
  rw [hbody] at hcsum
  refine ⟨t, _, _, rfl, rfl, hcsum, ?_, ?_, ?_, ?_⟩
  · simpa [hpkt.1] using hvalid.symm
  · simp
  · simp
  · simp [hpkt.2]

end Sys2Proof.Proofs
end

section
/-! PROOFS. Packets and the demand as the host sees them (30_encoding.md R89, 41_encoder.md R126, R131, U13), and the
checksum as an accumulator (40_checksum.md R111). -/

namespace Sys2Proof.Proofs

open Sys2Proof.Machine Sys2Proof.Safety Sys2Proof.Laws

/-! ## The demand (41_encoder.md R126) -/

theorem demand_eq (c : Nat) : demand c = c * 65536 / 2800 := rfl

/-- One rpm is a little over 23 units of demand. -/
theorem demand_succ (c : Nat) : demand (c + 1) = demand c + 23 ∨ demand (c + 1) = demand c + 24 := by
  rw [demand_eq, demand_eq]
  omega

theorem demand_strictMono : StrictMono demand :=
  strictMono_nat_of_lt_succ fun c => by
    have := demand_succ c
    omega

theorem clamp_mono : Monotone clamp := by
  intro r r' h
  have hmax : rpmMax = 2200 := rfl
  unfold clamp
  split_ifs <;> omega

/-- Settles O25: (a) to (d) by arithmetic, (e) one rpm at a time, (f) from the growth of the clamp and the demand. -/
theorem demandHasTheListedProperties : Obligations.DemandHasTheListedProperties := by
  refine ⟨rfl, rfl, rfl, rfl, fun n => ?_, fun c hc => ?_, fun c _ => demand_succ c,
    fun r r' h => demand_strictMono.monotone (clamp_mono h)⟩
  · rw [demand_eq]
    omega
  · rw [demand_eq]
    omega

/-! ## Packets of one id (30_encoding.md R89, 41_encoder.md R131) -/

/-- Settles O28: byte 37 of a packet is 1, where the cleared packet has 0x00. -/
theorem clearedPacketIsNoPacket : Obligations.ClearedPacketIsNoPacket := by
  intro t rpm d m hmin hmax
  obtain ⟨haddr, -, -, -, -, -, hflag, -⟩ := packetShape_encodePacket hmin hmax rpm d m
  generalize encodePacket decidedConfig t rpm d m = p at haddr hflag ⊢
  have h37 : bufferByte p 37 = 1#8 := BitVec.eq_of_toNat_eq hflag
  refine ⟨fun hzero => ?_, by omega, h37⟩
  rw [hzero, zeroPacket, bufferByte_replicate] at h37
  exact absurd h37 (by decide)

theorem clamp_natCast {c : Nat} (hc : c ≤ 2200) : clamp c = c := by
  exact_mod_cast clamp_of_mem (rpm := c) (by omega) (by omega)

theorem directionCode_injective : Function.Injective directionCode := by
  intro d d' h
  cases d <;> cases d' <;> simp [directionCode] at h ⊢

theorem modeCode_injective : Function.Injective modeCode := by
  intro m m' h
  cases m <;> cases m' <;> simp [modeCode] at h ⊢

/-- Settles O29: the slot holds the two bytes of a demand that grows with the rpm, bytes 33 and 35 the two codes, and
no other byte before the checksum looks at the command. -/
theorem distinctCommandsGiveDistinctPackets : Obligations.DistinctCommandsGiveDistinctPackets := by
  intro t c c' d d' m m' hmin hmax hc hc'
  refine ⟨fun heq => ?_, fun i hlow hhigh h33 h35 h43 => ?_⟩
  · obtain ⟨-, hlow, hhigh, -, hdir, hmode, -⟩ := packetShape_encodePacket hmin hmax c d m
    obtain ⟨-, hlow', hhigh', -, hdir', hmode', -⟩ := packetShape_encodePacket hmin hmax c' d' m'
    rw [clamp_natCast hc, heq] at hlow hhigh
    rw [clamp_natCast hc'] at hlow' hhigh'
    rw [heq] at hdir hmode
    have hdemand : demand c = demand c' := by omega
    exact ⟨demand_strictMono.injective hdemand, directionCode_injective (hdir.symm.trans hdir'),
      modeCode_injective (hmode.symm.trans hmode')⟩
  · apply BitVec.eq_of_toNat_eq
    rw [toNat_bufferByte_encodePacket hmax _ _ _ h43, toNat_bufferByte_encodePacket hmax _ _ _ h43]
    simp only [hlow, hhigh, h33, h35, if_false]

/-- Settles O30: the assignments that look at `FLAG_SHIFT` are those at offsets 33, 35 and 37, and the seal at 43. -/
theorem otherPacketBytesIgnoreFlagShift : Obligations.OtherPacketBytesIgnoreFlagShift := by
  intro cfg cfg' t rpm d m haddr i h33 h35 h37 h43
  rw [encodePacket, encodePacket, assemble, assemble, bufferByte_sealPacket, bufferByte_sealPacket]
  simp only [h43, if_false, packetBody, bufferByte_setByte, h33, h35, h37, false_and, haddr]

/-! ## The checksum as an accumulator (40_checksum.md R111) -/

theorem foldl_add_eq (acc : Byte) (body : List Byte) :
    body.foldl (fun acc b => acc + b) acc = acc + BitVec.ofNat 8 (byteSum body) := by
  induction body generalizing acc with
  | nil => simp [byteSum]
  | cons b rest ih =>
    rw [List.foldl_cons, ih, byteSum, BitVec.ofNat_add, BitVec.ofNat_toNat, BitVec.setWidth_eq, BitVec.add_assoc]

theorem accumulate_eq_csum (body : List Byte) : accumulate body = csum body := by
  rw [accumulate, foldl_add_eq, csum, BitVec.ofNat_add]
  rfl

theorem byteSum_perm {body body' : List Byte} (h : body.Perm body') : byteSum body' = byteSum body := by
  rw [byteSum_eq_sum, byteSum_eq_sum, (h.map _).sum_eq]

theorem byteSum_filter_ne_zero (body : List Byte) : byteSum (body.filter (fun b => b ≠ 0#8)) = byteSum body := by
  induction body with
  | nil => rfl
  | cons b rest ih =>
    by_cases hb : b = 0#8
    · rw [List.filter_cons_of_neg (by simp [hb]), ih, byteSum, hb]
      simp
    · rw [List.filter_cons_of_pos (by simp [hb]), byteSum, byteSum, ih]

/-- Settles O46: all three are about the sum of the bytes. -/
theorem checksumIsAnEightBitAccumulator : Obligations.ChecksumIsAnEightBitAccumulator := by
  intro body
  refine ⟨accumulate_eq_csum body, fun body' hperm => ?_, ?_⟩
  · rw [csum, csum, byteSum_perm hperm]
  · rw [csum, csum, byteSum_filter_ne_zero]

end Sys2Proof.Proofs
end

section
/-! PROOFS. Rounding and the text record (30_encoding.md R103, R104, U5), and what `DECODE` leaves of a frame
(42_decoder.md R165, R168, 30_encoding.md R96). -/

namespace Sys2Proof.Proofs

open Sys2Proof.Machine Sys2Proof.Safety Sys2Proof.Laws

/-! ## Rounding to hundredths (30_encoding.md R103) -/

/-- `round2` takes the floor of `100 q`, or the integer above it, by the remainder `r`: above it only if `2 r` is at
least the denominator, and at an exact tie as the configuration says. -/
theorem round2_cases (cfg : Config) (q : Frac) :
    ((q.den : Int) < 2 * (100 * q.num % q.den) ∧ round2 cfg q = 100 * q.num / q.den + 1) ∨
    (2 * (100 * q.num % q.den) = q.den ∧
      round2 cfg q = 100 * q.num / q.den + if cfg.tieUp (100 * q.num / q.den) then 1 else 0) ∨
    (2 * (100 * q.num % q.den) < q.den ∧ round2 cfg q = 100 * q.num / q.den) := by
  simp only [round2]
  rcases lt_trichotomy (q.den : Int) (2 * (100 * q.num % q.den)) with h | h | h
  · exact .inl ⟨h, if_pos h⟩
  · refine .inr (.inl ⟨h.symm, ?_⟩)
    rw [if_neg (by omega)]
    cases cfg.tieUp (100 * q.num / q.den) <;> simp [← h]
  · refine .inr (.inr ⟨h, ?_⟩)
    rw [if_neg (by omega), if_neg (by omega)]

/-- The hundredths are the floor or the integer above it. -/
theorem round2_floor (cfg : Config) (q : Frac) :
    round2 cfg q = 100 * q.num / q.den ∨ round2 cfg q = 100 * q.num / q.den + 1 := by
  obtain ⟨-, h⟩ | ⟨-, h⟩ | ⟨-, h⟩ := round2_cases cfg q
  · exact .inr h
  · rw [h]
    split
    · exact .inr rfl
    · exact .inl (Int.add_zero _)
  · exact .inl h

/-- The rounding error over the fraction's own denominator. -/
theorem round2_error (cfg : Config) {q : Frac} (hden : 0 < q.den) :
    |(round2 cfg q : ℚ) - 100 * fracValue q| = (|q.den * round2 cfg q - 100 * q.num| : ℤ) / q.den := by
  have hpos : (0 : ℚ) < q.den := by exact_mod_cast hden
  have herror : (round2 cfg q : ℚ) - 100 * fracValue q = ((q.den * round2 cfg q - 100 * q.num : ℤ) : ℚ) / q.den := by
    rw [fracValue]
    push_cast
    field_simp
  rw [herror, abs_div, abs_of_pos hpos, Int.cast_abs]

/-- Twice the error is at most the denominator, and equals it exactly if twice the remainder does. -/
theorem two_mul_round2_error (cfg : Config) {q : Frac} (hden : 0 < q.den) :
    2 * |q.den * round2 cfg q - 100 * q.num| ≤ q.den ∧
      (2 * |q.den * round2 cfg q - 100 * q.num| = q.den ↔ 2 * (100 * q.num % q.den) = q.den) := by
  have hdiv := Int.mul_ediv_add_emod (100 * q.num) q.den
  have hlo := Int.emod_nonneg (100 * q.num) (Int.natCast_ne_zero.2 hden.ne')
  have hhi := Int.emod_lt_of_pos (100 * q.num) (Int.natCast_pos.2 hden)
  have hup : (q.den : ℤ) * (100 * q.num / q.den + 1) = q.den * (100 * q.num / q.den) + q.den := by ring
  have herror : (q.den : ℤ) * round2 cfg q - 100 * q.num = q.den - 100 * q.num % q.den ∧
        (q.den : ℤ) ≤ 2 * (100 * q.num % q.den) ∨
      (q.den : ℤ) * round2 cfg q - 100 * q.num = -(100 * q.num % q.den) ∧ 2 * (100 * q.num % q.den) ≤ q.den := by
    obtain ⟨hr, h⟩ | ⟨hr, h⟩ | ⟨hr, h⟩ := round2_cases cfg q
    · exact .inl ⟨by rw [h, hup]; omega, by omega⟩
    · split at h
      · exact .inl ⟨by rw [h, hup]; omega, by omega⟩
      · exact .inr ⟨by rw [h, Int.add_zero]; omega, by omega⟩
    · exact .inr ⟨by rw [h]; omega, by omega⟩
  obtain ⟨he, hr⟩ | ⟨he, hr⟩ := herror
  · rw [he, abs_of_nonneg (by omega)]
    omega
  · rw [he, abs_neg, abs_of_nonneg hlo]
    omega

theorem round2_error_le (cfg : Config) {q : Frac} (hden : 0 < q.den) :
    |(round2 cfg q : ℚ) - 100 * fracValue q| ≤ 1 / 2 := by
  have hpos : (0 : ℚ) < q.den := by exact_mod_cast hden
  rw [round2_error cfg hden, div_le_div_iff₀ hpos two_pos]
  have hle := (two_mul_round2_error cfg hden).1
  norm_cast
  omega

/-- A tie is where the exact remainder is one half, under every configuration. -/
theorem round2_tie_iff (cfg : Config) {q : Frac} (hden : 0 < q.den) :
    |(round2 cfg q : ℚ) - 100 * fracValue q| = 1 / 2 ↔ 2 * (100 * q.num % q.den) = q.den := by
  have hpos : (q.den : ℚ) ≠ 0 := by exact_mod_cast hden.ne'
  rw [round2_error cfg hden, div_eq_div_iff hpos two_ne_zero, ← (two_mul_round2_error cfg hden).2]
  norm_cast
  omega

/-- The decided `round2` takes the even of the two neighbours at a tie. -/
theorem round2_decided_even {q : Frac} (htie : 2 * (100 * q.num % q.den) = q.den) :
    round2 decidedConfig q % 2 = 0 := by
  obtain ⟨h, -⟩ | ⟨-, h⟩ | ⟨h, -⟩ := round2_cases decidedConfig q
  · omega
  · rw [h]
    simp only [decidedConfig, halfToEven, decide_eq_true_eq]
    split <;> omega
  · omega

/-- Settles O41: the error bound and the tie over the common denominator; the print is the definition's, and two digits
stand for a number below 100. -/
theorem fix2RoundsToHundredthsAndPrintsThem : Obligations.Fix2RoundsToHundredthsAndPrintsThem := by
  intro cfg q
  refine ⟨fun hden => ⟨round2_error_le cfg hden, fun htie => ?_⟩, ?_⟩
  · exact round2_decided_even ((round2_tie_iff decidedConfig hden).1 htie)
  · refine ⟨digit ((round2 cfg q).natAbs % 100 / 10), digit ((round2 cfg q).natAbs % 10), ?_, isDigit_digit _,
      isDigit_digit _, ?_⟩
    · simp [fix2, hundredths, minus, fullStop]
    · simp only [numeralValue, List.foldl_cons, List.foldl_nil, toNat_digit]
      omega

/-! ## The hundredths of the two scaled quantities (30_encoding.md R104, U5) -/

@[simp] theorem amps_num (raw : BitVec 10) : (amps raw).num = raw.toNat := rfl
@[simp] theorem amps_den (raw : BitVec 10) : (amps raw).den = 59 := rfl
@[simp] theorem celsius_num (raw : BitVec 10) : (celsius raw).num = 7345 * raw.toNat - 2458415 := rfl
@[simp] theorem celsius_den (raw : BitVec 10) : (celsius raw).den = 10000 := rfl

theorem round2_amps_mem (cfg : Config) (raw : BitVec 10) :
    0 ≤ round2 cfg (amps raw) ∧ round2 cfg (amps raw) < 1800 := by
  have hraw := raw.isLt
  have hfloor := round2_floor cfg (amps raw)
  simp only [amps_num, amps_den, Nat.cast_ofNat] at hfloor
  omega

theorem round2_celsius_mem (cfg : Config) (raw : BitVec 10) :
    -24585 ≤ round2 cfg (celsius raw) ∧ round2 cfg (celsius raw) ≤ 50556 := by
  have hraw := raw.isLt
  have hfloor := round2_floor cfg (celsius raw)
  simp only [celsius_num, celsius_den, Nat.cast_ofNat] at hfloor
  omega

/-- A negative temperature is at a raw value of at most 334, which is more than half a degree below zero. -/
theorem round2_celsius_neg (cfg : Config) {raw : BitVec 10} (hneg : fracValue (celsius raw) < 0) :
    round2 cfg (celsius raw) < 0 := by
  have hraw : raw.toNat < 335 := by
    by_contra hge
    have : (335 : ℚ) ≤ raw.toNat := by exact_mod_cast Nat.not_lt.1 hge
    rw [fracValue_celsius] at hneg
    linarith
  have hfloor := round2_floor cfg (celsius raw)
  simp only [celsius_num, celsius_den, Nat.cast_ofNat] at hfloor
  omega

/-- Settles O42: 59 is odd, so a current has no tie; 10000 divides twice the remainder of a temperature where listed. -/
theorem tiesAreExactlyTheListedTemperatures : Obligations.TiesAreExactlyTheListedTemperatures := by
  intro cfg raw
  refine ⟨?_, ?_, round2_celsius_neg cfg⟩
  · rw [Ne, round2_tie_iff cfg (by simp), amps_den]
    omega
  · rw [round2_tie_iff cfg (by simp), celsius_num, celsius_den, Nat.cast_ofNat]
    omega

/-! ## The length of a record (30_encoding.md R104) -/

theorem length_dec_pos (n : Nat) : 1 ≤ (dec n).length :=
  List.length_pos_of_ne_nil (dec_ne_nil n)

/-- A number below `10 ^ (k + 1)` has at most `k + 1` digits. -/
theorem length_dec_le {n k : Nat} (h : n < 10 ^ (k + 1)) : (dec n).length ≤ k + 1 := by
  induction k generalizing n with
  | zero => simp [dec_of_lt (by simpa using h)]
  | succ k ih =>
    by_cases hn : n < 10
    · simp [dec_of_lt hn]
    · have := ih (n := n / 10) (by rw [pow_succ] at h; omega)
      rw [dec_of_ge (by omega), List.length_append, List.length_singleton]
      omega

theorem length_hundredths (h : Int) :
    (hundredths h).length = (if h < 0 then 1 else 0) + (dec (h.natAbs / 100)).length + 3 := by
  rw [hundredths]
  split
  · simp
    omega
  · simp

theorem length_fix2_amps (cfg : Config) (raw : BitVec 10) :
    4 ≤ (fix2 cfg (amps raw)).length ∧ (fix2 cfg (amps raw)).length ≤ 5 := by
  have hmem := round2_amps_mem cfg raw
  have hmin := length_dec_pos ((round2 cfg (amps raw)).natAbs / 100)
  have hmax := length_dec_le (n := (round2 cfg (amps raw)).natAbs / 100) (k := 1) (by omega)
  rw [fix2, length_hundredths, if_neg (by omega)]
  omega

theorem length_fix2_celsius (cfg : Config) (raw : BitVec 10) :
    4 ≤ (fix2 cfg (celsius raw)).length ∧ (fix2 cfg (celsius raw)).length ≤ 7 := by
  have hmem := round2_celsius_mem cfg raw
  have hmin := length_dec_pos ((round2 cfg (celsius raw)).natAbs / 100)
  have hmax := length_dec_le (n := (round2 cfg (celsius raw)).natAbs / 100) (k := 2) (by omega)
  rw [fix2, length_hundredths]
  split <;> omega

theorem length_decBool (b : Bool) : (decBool b).length = 1 := by
  rw [decBool_eq]
  rfl

/-- Settles O43: field by field, and eight commas. -/
theorem recordHasTwentyThreeToThirtyTwoBytes : Obligations.RecordHasTwentyThreeToThirtyTwoBytes := by
  intro cfg frame r h
  obtain ⟨⟨hamps, hcelsius⟩, -⟩ := decodeFields_computed h
  have haddress := length_dec_le (n := r.address.toNat) (k := 1) (by have := r.address.isLt; omega)
  have hspeed := length_dec_le (n := r.speed.toNat) (k := 4) (by have := r.speed.isLt; omega)
  have hcur := length_fix2_amps cfg r.curRaw
  have htmp := length_fix2_celsius cfg r.tmpRaw
  have haddress1 := length_dec_pos r.address.toNat
  have hspeed1 := length_dec_pos r.speed.toNat
  simp only [render, hamps, hcelsius, dec_directionCode, List.length_append, List.length_singleton, length_decBool]
  omega

/-! ## The text form of `DECODE` (42_decoder.md R168, R169) -/

/-- 42_decoder.md R168 with `condensed` = 1: a frame of 20 bytes or more goes to the text record. -/
theorem exec_decode_txt_of_long {s : State} (h : 19 < s.ibufLen) :
    ∃ r, decodeFields decidedConfig (replyFrame s) = some r ∧
      exec (.decode .txt) s = .next (respond .ok .noCause (writeText (render decidedConfig r) s)) := by
  obtain ⟨hshort, -⟩ | ⟨-, -, -, hform, -⟩ | ⟨r, -, hr, -, hs⟩ := decodeWith_cases decidedConfig .txt s
  · omega
  · cases hform
  · exact ⟨r, hr, congrArg Host.Outcome.next hs⟩

/-- `TXT_LEN` has room for the length of every record. -/
theorem toNat_txtLen_writeText {record : List Byte} (h : record.length ≤ 32) (s : State) :
    (writeText record s).txtLen.toNat = record.length := by
  rw [writeText_txtLen, BitVec.toNat_ofNat]
  omega

/-- Behind the record `TXT` is padded. -/
theorem bufferByte_padText_of_ge {record : List Byte} {i : Nat} (hlen : record.length ≤ i) (hi : i < 32) :
    bufferByte (padText record) i = 0#8 := by
  rw [bufferByte_padText _ hi, List.getElem?_eq_none hlen, Option.getD_none]

/-- Settles O34: the record is that of the telemetry both forms decode, and it fits `TXT`. -/
theorem decodeWritesTheTextRecord : Obligations.DecodeWritesTheTextRecord := by
  intro s h
  obtain ⟨r, hr, hexec⟩ := exec_decode_txt_of_long h
  obtain ⟨r', hr', hexec'⟩ := exec_decode_tel_of_long h
  obtain rfl : r = r' := Option.some.inj (hr.symm.trans hr')
  obtain ⟨-, hmax⟩ := recordHasTwentyThreeToThirtyTwoBytes decidedConfig _ r hr
  refine ⟨_, r, hexec, hr, ?_⟩
  generalize render decidedConfig r = record at hmax ⊢
  have hlen := toNat_txtLen_writeText hmax s
  refine ⟨rfl, hlen, fun i b hb => ?_, fun i hlo hi => ?_, _, hexec', by simp, by simp, by simp⟩
  · have hi : i < 32 := (List.getElem?_eq_some_iff.1 hb).1.trans_le hmax
    simp [bufferByte_padText _ hi, hb]
  · exact bufferByte_padText_of_ge (hlen ▸ hlo) hi

/-! ## The fault booleans under `LITERAL` (42_decoder.md R165) -/

/-- A mask without bit 0 never leaves the integer 1. -/
theorem faultFlag_literal {mask : Byte} (hmask : mask.getLsbD 0 = false) (statusByte : Byte) :
    faultFlag .literal statusByte mask = false := by
  refine decide_eq_false fun h => ?_
  have hbit : (statusByte &&& mask).getLsbD 0 = (1#8).getLsbD 0 := by rw [h]
  rw [BitVec.getLsbD_and, hmask, Bool.and_false] at hbit
  exact absurd hbit (by decide)

/-- Settles O37: no mask has bit 0; a `DECODE` stores a decoded frame's booleans or clears them. -/
theorem literalPolicyNeverReportsAFault : Obligations.LiteralPolicyNeverReportsAFault := by
  have hfields : ∀ (cfg : Config) (frame : List Byte) (r : Telemetry), cfg.faultPolicy = .literal →
      decodeFields cfg frame = some r →
      r.leak = false ∧ r.speedError = false ∧ r.overTemp = false ∧ r.overCurrent = false := by
    intro cfg frame r hpolicy h
    obtain ⟨-, hleak, hspeed, htemp, hcurrent⟩ := decodeFields_computed h
    rw [hleak, hspeed, htemp, hcurrent, hpolicy]
    exact ⟨faultFlag_literal rfl _, faultFlag_literal rfl _, faultFlag_literal rfl _, faultFlag_literal rfl _⟩
  refine ⟨hfields, fun s t form h => ?_⟩
  cases h
  obtain ⟨-, -, hs⟩ | ⟨r, -, hr, -, hs⟩ | ⟨r, -, -, -, hs⟩ := decodeWith_cases decidedConfig form s <;> rw [hs]
  · exact ⟨rfl, rfl, rfl, rfl⟩
  · exact hfields decidedConfig _ r rfl hr
  · exact ⟨rfl, rfl, rfl, rfl⟩

/-! ## The interpreted bits of a frame (30_encoding.md R90, R96) -/

/-- Bytes that agree under a mask of the low `n` bits. -/
theorem toNat_mod_congr {b b' : Byte} {n : Nat} (hn : n ≤ 8)
    (h : b &&& BitVec.ofNat 8 (2 ^ n - 1) = b' &&& BitVec.ofNat 8 (2 ^ n - 1)) :
    b.toNat % 2 ^ n = b'.toNat % 2 ^ n := by
  have hmask : (2 ^ n - 1) % 2 ^ 8 = 2 ^ n - 1 := by
    have := Nat.pow_le_pow_right two_pos hn
    exact Nat.mod_eq_of_lt (by have := Nat.two_pow_pos n; omega)
  have := congrArg BitVec.toNat h
  rwa [BitVec.toNat_and, BitVec.toNat_and, BitVec.toNat_ofNat, hmask, Nat.and_two_pow_sub_one_eq_mod,
    Nat.and_two_pow_sub_one_eq_mod] at this

/-- A fault boolean looks at its mask's bits only. -/
theorem faultFlag_congr (policy : FaultPolicy) {b b' mask seen : Byte} (h : b &&& seen = b' &&& seen)
    (hmask : seen &&& mask = mask) : faultFlag policy b mask = faultFlag policy b' mask := by
  have hmasked : b &&& mask = b' &&& mask := by
    rw [← hmask, ← BitVec.and_assoc, h, BitVec.and_assoc]
  cases policy <;> simp only [faultFlag, hmasked]

/-- Frames with the same raw fields and the same interpreted status bits decode alike. -/
theorem decodeFields_congr (cfg : Config) {frame frame' : List Byte} (hlen : 19 < frame.length)
    (hlen' : 19 < frame'.length) (haddress : replyAddress frame = replyAddress frame')
    (hspeed : replySpeed frame = replySpeed frame') (hcur : replyCurRaw frame = replyCurRaw frame')
    (htmp : replyTmpRaw frame = replyTmpRaw frame')
    (hstatus : frameByte frame 18 &&& 0x1F#8 = frameByte frame' 18 &&& 0x1F#8) :
    decodeFields cfg frame = decodeFields cfg frame' := by
  have hdir : replyDirection (frameByte frame 18) = replyDirection (frameByte frame' 18) :=
    directionCode_injective <| by
      have := toNat_mod_congr (n := 5) (by decide) hstatus
      rw [directionCode_replyDirection, directionCode_replyDirection]
      omega
  have hflag {mask : Byte} (hmask : 0x1F#8 &&& mask = mask) :=
    faultFlag_congr cfg.faultPolicy hstatus hmask
  have hlong : ¬frame.length < frameMin := Nat.not_lt.2 hlen
  have hlong' : ¬frame'.length < frameMin := Nat.not_lt.2 hlen'
  rw [decodeFields, decodeFields, if_neg hlong, if_neg hlong']
  simp only [haddress, hspeed, hdir, hcur, htmp, hflag (mask := leakMask) rfl, hflag (mask := speedErrorMask) rfl,
    hflag (mask := overTempMask) rfl, hflag (mask := overCurrentMask) rfl]

/-- `DECODE` looks at the decoded fields only. -/
theorem decodeWith_reply_congr (cfg : Config) (form : Form) {s s' : State}
    (hfields : decodeFields cfg (replyFrame s) = decodeFields cfg (replyFrame s')) :
    SameReplyResults (decodeWith cfg form s) (decodeWith cfg form s') := by
  simp only [decodeWith, hfields]
  cases decodeFields cfg (replyFrame s') with
  | none => exact ⟨rfl, rfl, rfl, rfl⟩
  | some r => cases form <;> exact ⟨rfl, rfl, rfl, rfl⟩

/-- Settles O39: the interpreted bits fix every raw field and the interpreted bits of the status byte. -/
theorem uninterpretedBitsDoNotMatter : Obligations.UninterpretedBitsDoNotMatter := by
  intro s s' t t' form hlen hlen' hsame ht ht'
  cases ht
  cases ht'
  obtain ⟨h0, h1, h2, h3, h4, h5, h6, h18⟩ := hsame
  have hbyte (i : Nat) (hi : i ≤ 18) : frameByte (replyFrame s) i = byteAt s .ibuf i ∧
      frameByte (replyFrame s') i = byteAt s' .ibuf i :=
    ⟨frameByte_replyFrame s (by omega), frameByte_replyFrame s' (by omega)⟩
  have h0 := toNat_mod_congr (n := 5) (by decide) h0
  have h4 := toNat_mod_congr (n := 2) (by decide) h4
  have h6 := toNat_mod_congr (n := 2) (by decide) h6
  refine decodeWith_reply_congr decidedConfig form (decodeFields_congr decidedConfig (by simpa using hlen)
    (by simpa using hlen') (BitVec.eq_of_toNat_eq ?_) ?_ (BitVec.eq_of_toNat_eq ?_) (BitVec.eq_of_toNat_eq ?_) ?_)
  · simpa [toNat_replyAddress, hbyte] using h0
  · simp [replySpeed, hbyte, h1, h2]
  · simp only [toNat_replyCurRaw, hbyte, Nat.reduceLeDiff, h3]
    omega
  · simp only [toNat_replyTmpRaw, hbyte, Nat.reduceLeDiff, h5]
    omega
  · simpa [hbyte] using h18

end Sys2Proof.Proofs
end

section
/-! PROOFS. The invariants (10_state.md R25, R27, R28, R31; 60_exceptions.md R190; 20_memory.md R50, R52): they hold at
reset and every step keeps them. -/

namespace Sys2Proof.Proofs

open Sys2Proof.Machine Sys2Proof.Safety Sys2Proof.Laws

/-! ## One induction step for all of them -/

/-- Two states that agree on every register the block owns (10_state.md R20). -/
def SameRegisters (s t : State) : Prop :=
  t = { s with ibuf := t.ibuf, ibufLen := t.ibufLen, ibufEpoch := t.ibufEpoch, stream := t.stream, rsp := t.rsp }

/-- What holds at reset, looks at the block's registers only, and is kept by every operation, is kept by every step. -/
theorem step_keeps {P : State → Prop} (hreset : P State.reset) (hhost : ∀ s t, SameRegisters s t → P s → P t)
    (hexec : ∀ i s t, P s → exec i s = .next t → P t) {s t : State} (hs : P s) (h : step s = .next t) : P t := by
  obtain ⟨-, rfl⟩ | ⟨a, rest, -, hact⟩ := step_cases h
  · exact hhost s _ rfl hs
  · obtain ⟨w, -, hw⟩ | ⟨-, rfl⟩ | ⟨bytes, -, rfl⟩ | ⟨off, b, -, -, rfl⟩ | ⟨n, -, -, rfl⟩ := hact
    · exact hexec _ { s with stream := rest } t (hhost s _ rfl hs) hw
    · exact hhost State.reset _ rfl hreset
    · exact hhost s _ rfl hs
    · exact hhost s _ rfl hs
    · exact hhost s _ rfl hs

/-! ## BOUND, TID, PKT and PKT_VALID (10_state.md R31 (i) to (iv)) -/

theorem encoderInv_reset : EncoderInv State.reset :=
  ⟨fun _ => ⟨rfl, rfl⟩, nofun, nofun, fun _ => rfl⟩

/-- The invariant looks at four registers. -/
theorem encoderInv_congr {s t : State} (h : EncoderInv s) (hbound : t.bound = s.bound) (htid : t.tid = s.tid)
    (hpkt : t.pkt = s.pkt) (hvalid : t.pktValid = s.pktValid) : EncoderInv t := by
  obtain ⟨h1, h2, h3, h4⟩ := h
  rw [← hbound, ← htid, ← hvalid] at h1
  rw [← hbound, ← htid] at h2
  rw [← hvalid, ← hbound, ← hpkt, ← htid] at h3
  rw [← hvalid, ← hpkt] at h4
  exact ⟨h1, h2, h3, h4⟩

theorem encoderInv_setBinding {s : State} (h : EncoderInv s) (hunbound : s.bound = false) {id : Nat} (hmin : 1 ≤ id)
    (hmax : id ≤ 7) : EncoderInv (setBinding id s) := by
  obtain ⟨-, hinvalid⟩ := h.unbound hunbound
  refine ⟨nofun, fun _ => ?_, fun hvalid => ?_, h.cleared⟩
  · rw [toNat_setBinding_tid hmax]
    exact ⟨hmin, hmax⟩
  · exact absurd (hinvalid.symm.trans hvalid) nofun

theorem encoderInv_clearPacket {s : State} (h : EncoderInv s) : EncoderInv (clearPacket s) :=
  ⟨fun hunbound => ⟨(h.unbound hunbound).1, rfl⟩, h.bound, nofun, fun _ => rfl⟩

/-- A produced packet has the shape of the bound id's packets, at the demand of the clamped rpm. -/
theorem encoderInv_writePacket {s : State} (h : EncoderInv s) (hbound : s.bound = true) (rpm : Int) (d : Direction)
    (m : Mode) : EncoderInv (writePacket (encodePacket decidedConfig s.tid.toNat rpm d m) s) := by
  obtain ⟨hmin, hmax⟩ := h.bound hbound
  have hvalid := packetsAreChecksumValidUnderEveryConfig.1 decidedConfig s.tid.toNat rpm d m
  have hshape := packetShape_encodePacket hmin hmax rpm d m
  generalize encodePacket decidedConfig s.tid.toNat rpm d m = p at hvalid hshape ⊢
  refine ⟨fun hunbound => ?_, h.bound, fun _ => ⟨hbound, hvalid, clamp rpm, directionCode d, modeCode m, clamp_le rpm,
    directionCode_le d, modeCode_le m, hshape⟩, nofun⟩
  exact absurd (hbound.symm.trans hunbound) nofun

theorem encoderInv_exec {i : Instr} {s t : State} (hs : EncoderInv s) (h : exec i s = .next t) : EncoderInv t := by
  obtain ⟨st, c, u, heffect, rfl⟩ := effect_of_exec h
  suffices hu : EncoderInv u from encoderInv_congr hu rfl rfl rfl rfl
  generalize operationOf i = op at heffect
  cases heffect with
  | failure =>
    cases op with
    | encode => exact encoderInv_clearPacket hs
    | _ => exact encoderInv_congr hs rfl rfl rfl rfl
  | binding hunbound hmin hmax => exact encoderInv_setBinding hs hunbound hmin hmax
  | packet hbound hp =>
    obtain ⟨rpm, d, m, rfl⟩ := hp
    exact encoderInv_writePacket hs hbound rpm d m
  | _ => exact encoderInv_congr hs rfl rfl rfl rfl

/-- Settles O55: only `BIND` and `ENCODE` touch the four registers, and each of their effects keeps the invariant. -/
theorem stepsKeepTheEncoderInvariant : Obligations.StepsKeepTheEncoderInvariant :=
  fun _ _ => step_keeps encoderInv_reset (fun s t hsame hs => by rw [hsame]; exact encoderInv_congr hs rfl rfl rfl rfl)
    fun _ _ _ => encoderInv_exec

/-! ## The decoder's registers (10_state.md R31 (v), R25, R27) -/

/-- Both result sets cleared. -/
theorem decoderInv_of_cleared {s : State} (htel : s.tel = TelRegs.zero) (htxt : s.txt = Vector.replicate 32 0#8)
    (hlen : s.txtLen = 0#6) : DecoderInv s := by
  refine ⟨fun _ => hlen, fun hpos => ?_, fun _ => htel, fun i _ _ => ?_⟩
  · rw [hlen] at hpos
    exact absurd hpos (by decide)
  · rw [htxt, bufferByte_replicate]

/-- The invariant looks at the decoder's results. -/
theorem decoderInv_congr {s t : State} (h : DecoderInv s) (hsame : SameReplyResults t s) : DecoderInv t := by
  obtain ⟨h1, h2, h3, h4⟩ := h
  obtain ⟨htel, hvalid, htxt, hlen⟩ := hsame
  rw [← hvalid, ← hlen] at h1
  rw [← hlen, ← hvalid] at h2
  rw [← hvalid, ← htel] at h3
  rw [← hlen, ← htxt] at h4
  exact ⟨h1, h2, h3, h4⟩

theorem decoderInv_writeTelemetry (regs : TelRegs) (s : State) : DecoderInv (writeTelemetry regs s) := by
  refine ⟨fun _ => rfl, fun hpos => ?_, nofun, fun i _ _ => ?_⟩
  · exact absurd hpos (by simp)
  · rw [writeTelemetry_txt, bufferByte_replicate]

theorem decoderInv_writeText {record : List Byte} (hmin : 23 ≤ record.length) (hmax : record.length ≤ 32) (s : State) :
    DecoderInv (writeText record s) := by
  have hlen := toNat_txtLen_writeText hmax s
  refine ⟨nofun, fun _ => ⟨rfl, ?_, ?_⟩, fun _ => rfl, fun i hlo hi => ?_⟩
  · rwa [hlen]
  · rwa [hlen]
  · exact bufferByte_padText_of_ge (hlen ▸ hlo) hi

theorem decoderInv_exec {i : Instr} {s t : State} (hs : DecoderInv s) (h : exec i s = .next t) : DecoderInv t := by
  obtain ⟨st, c, u, heffect, rfl⟩ := effect_of_exec h
  suffices hu : DecoderInv u from decoderInv_congr hu ⟨rfl, rfl, rfl, rfl⟩
  generalize operationOf i = op at heffect
  by_cases hop : op = .decode
  · subst hop
    cases heffect with
    | failure => exact decoderInv_of_cleared rfl rfl rfl
    | telemetry => exact decoderInv_writeTelemetry _ s
    | text hrecord =>
      obtain ⟨r, hr, hrender⟩ := hrecord
      obtain ⟨hmin, hmax⟩ := recordHasTwentyThreeToThirtyTwoBytes decidedConfig _ r hr
      rw [← hrender] at hmin hmax
      exact decoderInv_writeText hmin hmax s
  · exact decoderInv_congr hs (heffect.keeps_reply hop)

theorem decoderInv_reset : DecoderInv State.reset := decoderInv_of_cleared rfl rfl rfl

/-- Settles O56: only `DECODE` touches these registers: it clears both result sets, or fills one and clears the other. -/
theorem stepsKeepTheDecoderInvariant : Obligations.StepsKeepTheDecoderInvariant :=
  fun _ _ => step_keeps decoderInv_reset
    (fun s t hsame hs => by rw [hsame]; exact decoderInv_congr hs ⟨rfl, rfl, rfl, rfl⟩) fun _ _ _ => decoderInv_exec

/-! ## CSR and the outcome codes (10_state.md R28, 60_exceptions.md R190) -/

theorem outcomeInv_reset : OutcomeInv State.reset :=
  ⟨fun _ => rfl, by decide, by decide, fun h => absurd rfl h⟩

/-- Every effect leaves `CSR` cleared while it is invalid. -/
theorem Effect.keeps_csr_cleared {s u : State} {op : Operation} (h : Effect s op u)
    (hs : s.csrValid = false → s.csr = 0#8) (hu : u.csrValid = false) : u.csr = 0#8 := by
  by_cases hop : op = .csum
  · subst hop
    cases h with
    | failure => rfl
    | checksum => cases hu
  · obtain ⟨hcsr, hvalid⟩ := h.keeps_checksum hop
    rw [hcsr]
    exact hs (hvalid ▸ hu)

theorem outcomeInv_exec {i : Instr} {s t : State} (hs : OutcomeInv s) (h : exec i s = .next t) : OutcomeInv t := by
  obtain ⟨hstatus, hcause, hsub, -⟩ := exec_codes_legal h
  refine ⟨?_, hstatus, hcause, not_imp_comm.1 hsub⟩
  obtain ⟨st, c, u, heffect, rfl⟩ := effect_of_exec h
  exact heffect.keeps_csr_cleared hs.checksum

/-- Settles O57: an operation leaves legal codes, and `CSR` is written by `CSUM` alone, which clears it or makes it
valid. -/
theorem stepsKeepTheOutcomeInvariant : Obligations.StepsKeepTheOutcomeInvariant :=
  fun _ _ => step_keeps outcomeInv_reset
    (fun s t hsame hs => by rw [hsame]; exact ⟨hs.checksum, hs.status, hs.cause, hs.subCause⟩)
    fun _ _ _ => outcomeInv_exec

/-! ## IBUF and IBUF_LEN (20_memory.md R50, R52) -/

/-- An empty input buffer. -/
theorem inputInv_of_empty {s : State} (hibuf : s.ibuf = []) (hlen : s.ibufLen = 0) : InputInv s := by
  refine ⟨?_, ?_, ?_⟩
  · simp [Memory.wf, hibuf]
  · simp [hibuf]
  · simp [hlen]

theorem inputInv_reset : InputInv State.reset := inputInv_of_empty rfl rfl

theorem inputInv_congr {s t : State} (h : InputInv s) (hibuf : t.ibuf = s.ibuf) (hlen : t.ibufLen = s.ibufLen) :
    InputInv t := by
  obtain ⟨h1, h2, h3⟩ := h
  rw [← hibuf] at h1 h2
  rw [← hlen] at h3
  exact ⟨h1, h2, h3⟩

theorem inputInv_fillInput {s : State} (h : InputInv s) (bytes : List Byte) :
    InputInv (fillInput decidedConfig bytes s) := by
  have hle : (bytes.take decidedConfig.frameMax).length ≤ decidedConfig.frameMax := List.length_take_le _ _
  refine ⟨wf_writeList h.canonical 0 _, fun c hc => ?_, hle⟩
  obtain ⟨-, hlt⟩ | hold := mem_writeList_offset hc
  · omega
  · exact h.offsets c hold

theorem inputInv_putByte {s : State} (h : InputInv s) {off : Nat} (hoff : off < decidedConfig.frameMax) (b : Byte) :
    InputInv (putByte off b s) := by
  refine ⟨wf_write h.canonical off b, fun c hc => ?_, h.length⟩
  obtain hnew | hold := mem_write_offset hc
  · rwa [hnew]
  · exact h.offsets c hold

theorem inputInv_exec {i : Instr} {s t : State} (hs : InputInv s) (h : exec i s = .next t) : InputInv t := by
  obtain ⟨hibuf, hlen, -⟩ := operationsWriteTheirOwnUnitOnly i s t h
  exact inputInv_congr hs hibuf hlen

/-- Settles O58: no operation writes `IBUF`; a fill and a byte write keep the canonical form and stay below
`FRAME_MAX`, and a step that sets a length has checked it. -/
theorem stepsKeepTheInputBufferInvariant : Obligations.StepsKeepTheInputBufferInvariant := by
  intro s t hs h
  obtain ⟨-, rfl⟩ | ⟨a, rest, -, hact⟩ := step_cases h
  · exact inputInv_congr hs rfl rfl
  · have hs' : InputInv { s with stream := rest } := inputInv_congr hs rfl rfl
    obtain ⟨w, -, hw⟩ | ⟨-, rfl⟩ | ⟨bytes, -, rfl⟩ | ⟨off, b, -, hoff, rfl⟩ | ⟨n, -, hn, rfl⟩ := hact
    · exact inputInv_exec hs' hw
    · exact inputInv_of_empty rfl rfl
    · exact inputInv_congr (inputInv_fillInput hs' bytes) rfl rfl
    · exact inputInv_congr (inputInv_putByte hs' hoff b) rfl rfl
    · exact ⟨hs.canonical, hs.offsets, hn⟩

/-- Settles O59: every register is cleared and the input buffer is empty. -/
theorem resetMeetsTheInvariants : Obligations.ResetMeetsTheInvariants :=
  ⟨encoderInv_reset, decoderInv_reset, outcomeInv_reset, inputInv_reset⟩

end Sys2Proof.Proofs
end

section
/-! PROOFS. Rounding to binary64 (42_decoder.md R162, log 7): what `roundTo64` gives of a fraction in the range of the
normal numbers, that it depends on the fraction's value only, and the error of one operation. -/

namespace Sys2Proof.Proofs

open Sys2Proof.Machine Sys2Proof.Safety Sys2Proof.Laws

/-! ## The exponent -/

/-- A power of two, as the model writes it: one of the two exponents is 0. -/
theorem two_zpow_eq (k : ℤ) : (2 : ℚ) ^ k = 2 ^ k.toNat / 2 ^ (-k).toNat := by
  rw [← zpow_natCast, ← zpow_natCast, ← zpow_sub₀ two_ne_zero]
  congr 1
  omega

/-- Comparing a quotient with a power of two, in natural numbers. -/
theorem mul_two_pow_le_iff {n d : ℕ} (hd : 0 < d) (k : ℤ) :
    d * 2 ^ k.toNat ≤ n * 2 ^ (-k).toNat ↔ (2 : ℚ) ^ k ≤ (n : ℚ) / d := by
  have hdpos : (0 : ℚ) < d := by exact_mod_cast hd
  rw [two_zpow_eq, div_le_div_iff₀ (by positivity) hdpos, mul_comm d]
  exact_mod_cast Iff.rfl

theorem log_eq_of_mem {v : ℚ} {k : ℤ} (hlo : 2 ^ k ≤ v) (hhi : v < 2 ^ (k + 1)) : Int.log 2 v = k := by
  have hpos : 0 < v := lt_of_lt_of_le (by positivity) hlo
  have h1 := (Int.zpow_le_iff_le_log one_lt_two hpos).1 (by exact_mod_cast hlo)
  have h2 := (Int.lt_zpow_iff_log_lt one_lt_two hpos).1 (by exact_mod_cast hhi)
  omega

/-- The exponent the model computes is the binary logarithm's floor. -/
theorem floorLog2_eq {n d : ℕ} (hn : 0 < n) (hd : 0 < d) : floorLog2 n d = Int.log 2 ((n : ℚ) / d) := by
  have hn0 : (2 : ℚ) ^ (n.log2 : ℤ) ≤ n := by exact_mod_cast Nat.log2_self_le hn.ne'
  have hn1 : (n : ℚ) < 2 ^ ((n.log2 : ℤ) + 1) := by exact_mod_cast Nat.lt_log2_self
  have hd0 : (2 : ℚ) ^ (d.log2 : ℤ) ≤ d := by exact_mod_cast Nat.log2_self_le hd.ne'
  have hd1 : (d : ℚ) < 2 ^ ((d.log2 : ℤ) + 1) := by exact_mod_cast Nat.lt_log2_self
  have hdpos : (0 : ℚ) < d := by exact_mod_cast hd
  unfold floorLog2
  generalize (n.log2 : ℤ) = a at *
  generalize (d.log2 : ℤ) = b at *
  simp only [mul_two_pow_le_iff hd]
  split
  case isTrue hle =>
    refine (log_eq_of_mem hle ?_).symm
    rw [div_lt_iff₀ hdpos]
    calc (n : ℚ) < 2 ^ (a + 1) := hn1
      _ = 2 ^ (a - b + 1) * 2 ^ b := by rw [← zpow_add₀ two_ne_zero]; ring_nf
      _ ≤ 2 ^ (a - b + 1) * d := by gcongr
  case isFalse hlt =>
    refine (log_eq_of_mem ?_ (by simpa using hlt)).symm
    rw [le_div_iff₀ hdpos]
    calc (2 : ℚ) ^ (a - b - 1) * d ≤ 2 ^ (a - b - 1) * 2 ^ (b + 1) := by gcongr
      _ = 2 ^ a := by rw [← zpow_add₀ two_ne_zero]; ring_nf
      _ ≤ n := hn0

/-! ## The significand -/

/-- The nearest integer is within one half of the quotient. -/
theorem abs_divNearestEven_sub_le (n : ℕ) {d : ℕ} (hd : 0 < d) : |(divNearestEven n d : ℚ) - n / d| ≤ 1 / 2 := by
  have hdiv := Nat.div_add_mod n d
  have hmod := Nat.mod_lt n hd
  have hdpos : (0 : ℚ) < d := by exact_mod_cast hd
  have hup : d * (n / d + 1) = d * (n / d) + d := by ring
  have hnear : 2 * n ≤ 2 * (d * divNearestEven n d) + d ∧ 2 * (d * divNearestEven n d) ≤ 2 * n + d := by
    simp only [divNearestEven]
    split <;> omega
  obtain ⟨h1, h2⟩ := hnear
  have h1 : (2 * n : ℚ) ≤ 2 * (d * divNearestEven n d) + d := by exact_mod_cast h1
  have h2 : (2 * (d * divNearestEven n d) : ℚ) ≤ 2 * n + d := by exact_mod_cast h2
  rw [abs_le]
  constructor
  · rw [neg_le_sub_iff_le_add, div_le_iff₀ hdpos]
    linarith
  · rw [sub_le_iff_le_add, ← sub_le_iff_le_add', le_div_iff₀ hdpos]
    linarith

theorem divNearestEven_mul_right (n d : ℕ) {k : ℕ} (hk : 0 < k) :
    divNearestEven (n * k) (d * k) = divNearestEven n d := by
  have hlt : d * k < 2 * (n % d * k) ↔ d < 2 * (n % d) := by
    rw [← mul_assoc]
    exact Nat.mul_lt_mul_right hk
  have heq : 2 * (n % d * k) = d * k ↔ 2 * (n % d) = d := by
    rw [← mul_assoc]
    exact Nat.mul_left_inj hk.ne'
  simp only [divNearestEven, Nat.mul_div_mul_right _ _ hk, Nat.mul_mod_mul_right, hlt, heq]

/-! ## Only the value of a fraction matters -/

theorem roundMagnitude64_mul_right (n : ℕ) {d k : ℕ} (hd : 0 < d) (hk : 0 < k) :
    roundMagnitude64 (n * k) (d * k) = roundMagnitude64 n d := by
  rcases Nat.eq_zero_or_pos n with rfl | hn
  · simp [roundMagnitude64]
  · have hlog : floorLog2 (n * k) (d * k) = floorLog2 n d := by
      have hkpos : (k : ℚ) ≠ 0 := by exact_mod_cast hk.ne'
      rw [floorLog2_eq (Nat.mul_pos hn hk) (Nat.mul_pos hd hk), floorLog2_eq hn hd]
      push_cast
      rw [mul_div_mul_right _ _ hkpos]
    have hne : n * k ≠ 0 := (Nat.mul_pos hn hk).ne'
    simp only [roundMagnitude64, hn.ne', hne, if_false, hlog]
    rw [Nat.mul_right_comm n k, Nat.mul_right_comm d k, divNearestEven_mul_right _ _ hk]

theorem fracValue_eq_iff {q q' : Frac} (hq : 0 < q.den) (hq' : 0 < q'.den) :
    fracValue q = fracValue q' ↔ q.num * q'.den = q'.num * q.den := by
  have h : (q.den : ℚ) ≠ 0 := by exact_mod_cast hq.ne'
  have h' : (q'.den : ℚ) ≠ 0 := by exact_mod_cast hq'.ne'
  rw [fracValue, fracValue, div_eq_div_iff h h']
  exact_mod_cast Iff.rfl

theorem roundTo64_congr {q q' : Frac} (hq : 0 < q.den) (hq' : 0 < q'.den) (h : fracValue q = fracValue q') :
    roundTo64 q = roundTo64 q' := by
  have hcross := (fracValue_eq_iff hq hq').1 h
  have habs : q.num.natAbs * q'.den = q'.num.natAbs * q.den := by
    have := congrArg Int.natAbs hcross
    rwa [Int.natAbs_mul, Int.natAbs_mul, Int.natAbs_natCast, Int.natAbs_natCast] at this
  have hsign : q.num < 0 ↔ q'.num < 0 := by
    have hqz : (0 : ℤ) < q.den := by exact_mod_cast hq
    have hqz' : (0 : ℤ) < q'.den := by exact_mod_cast hq'
    rw [← not_le, ← not_le, not_iff_not, ← mul_nonneg_iff_of_pos_right hqz', hcross, mul_nonneg_iff_of_pos_right hqz]
  have hmag : roundMagnitude64 q.num.natAbs q.den = roundMagnitude64 q'.num.natAbs q'.den := by
    rw [← roundMagnitude64_mul_right _ hq hq', ← roundMagnitude64_mul_right _ hq' hq, habs, Nat.mul_comm q.den]
  simp only [roundTo64, hmag, hsign]

/-! ## The value of a pattern -/

/-- The value of a binary64 pattern. -/
def value64 (b : BitVec 64) : ℚ := fracValue (valueOf64 b)

theorem valueOf64_den_pos (b : BitVec 64) : 0 < (valueOf64 b).den := Nat.two_pow_pos _

/-- A pattern whose exponent field is not 0 stands for its significand, with the hidden bit, times a power of two. -/
theorem value64_of_fields {b : BitVec 64} {neg : Bool} {e f : ℕ} (hsign : b.getLsbD 63 = neg)
    (hexp : (b.extractLsb' 52 11).toNat = e) (hfrac : (b.extractLsb' 0 52).toNat = f) (he : e ≠ 0) :
    value64 b = (if neg then -1 else 1) * ((2 ^ 52 + f : ℕ) : ℚ) * 2 ^ ((e : ℤ) - 1075) := by
  rw [value64, fracValue, valueOf64]
  simp only [hsign, hexp, hfrac, he, if_false]
  rw [two_zpow_eq]
  cases neg <;> push_cast <;> simp <;> ring

/-- The three fields of a pattern. -/
theorem ofNat64_fields (B : ℕ) : (BitVec.ofNat 64 B).getLsbD 63 = decide (B / 2 ^ 63 % 2 = 1) ∧
    ((BitVec.ofNat 64 B).extractLsb' 52 11).toNat = B / 2 ^ 52 % 2 ^ 11 ∧
    ((BitVec.ofNat 64 B).extractLsb' 0 52).toNat = B % 2 ^ 52 := by
  refine ⟨?_, ?_, ?_⟩
  · simp only [BitVec.getLsbD_ofNat, Nat.testBit_eq_decide_div_mod_eq, Nat.reduceLT, decide_true, Bool.true_and]
  · rw [BitVec.extractLsb'_toNat, BitVec.toNat_ofNat, Nat.shiftRight_eq_div_pow]
    omega
  · rw [BitVec.extractLsb'_toNat, BitVec.toNat_ofNat, Nat.shiftRight_zero]
    omega

/-- The pattern of a sign, a biased exponent below it by one, and a significand of 53 bits: a significand of `2 ^ 53`
carries into the exponent field. -/
theorem value64_ofNat {E m : ℕ} (neg : Bool) (hE : E < 2045) (hlo : 2 ^ 52 ≤ m) (hhi : m ≤ 2 ^ 53) :
    value64 (BitVec.ofNat 64 (E * 2 ^ 52 + m + if neg then 2 ^ 63 else 0)) =
      (if neg then -1 else 1) * (m : ℚ) * 2 ^ ((E : ℤ) - 1074) := by
  generalize hB : (E * 2 ^ 52 + m + if neg then 2 ^ 63 else 0) = B
  obtain ⟨hsign, hexp, hfrac⟩ := ofNat64_fields B
  have hneg : decide (B / 2 ^ 63 % 2 = 1) = neg := by
    cases neg <;> simp at hB ⊢ <;> omega
  rw [hneg] at hsign
  rcases hhi.lt_or_eq with hlt | rfl
  · have hfields : B / 2 ^ 52 % 2 ^ 11 = E + 1 ∧ B % 2 ^ 52 = m - 2 ^ 52 := by
      split at hB <;> omega
    rw [value64_of_fields hsign (hexp.trans hfields.1) (hfrac.trans hfields.2) (Nat.succ_ne_zero E),
      Nat.add_sub_cancel' hlo]
    congr 2
    push_cast
    ring
  · have hfields : B / 2 ^ 52 % 2 ^ 11 = E + 2 ∧ B % 2 ^ 52 = 0 := by
      split at hB <;> omega
    have hpow : (2 : ℚ) ^ (((E + 2 : ℕ) : ℤ) - 1075) = 2 * 2 ^ ((E : ℤ) - 1074) := by
      rw [← zpow_one_add₀ two_ne_zero]
      congr 1
      push_cast
      ring
    rw [value64_of_fields hsign (hexp.trans hfields.1) (hfrac.trans hfields.2) (by omega), hpow]
    push_cast
    ring

/-! ## What rounding gives -/

/-- `p` is a nearest value to `v` among those with a significand of 53 bits at the exponent of `v`. -/
def Rounds (v p : ℚ) : Prop :=
  ∃ m x : ℤ, p = m * 2 ^ x ∧ |p - v| ≤ 2 ^ x / 2 ∧ 2 ^ 52 * 2 ^ x ≤ |v| ∧ |v| < 2 ^ 53 * 2 ^ x

/-- The range of the normal numbers. -/
def Normal (v : ℚ) : Prop := v ≠ 0 ∧ -1022 ≤ Int.log 2 |v| ∧ Int.log 2 |v| ≤ 1022

theorem scaled_div_eq (n d : ℕ) (s : ℤ) :
    ((n * 2 ^ s.toNat : ℕ) : ℚ) / (d * 2 ^ (-s).toNat : ℕ) = n / d * 2 ^ s := by
  rw [two_zpow_eq]
  push_cast
  exact mul_div_mul_comm _ _ _ _

/-- The integer nearest to a number from `2 ^ 52` up to `2 ^ 53`. -/
theorem significand_mem {m : ℕ} {w : ℚ} (hnear : |(m : ℚ) - w| ≤ 1 / 2) (hlo : 2 ^ 52 ≤ w) (hhi : w < 2 ^ 53) :
    2 ^ 52 ≤ m ∧ m ≤ 2 ^ 53 := by
  obtain ⟨h1, h2⟩ := abs_le.1 hnear
  have hlo' : ((2 ^ 52 : ℕ) : ℚ) < (m + 1 : ℕ) := by push_cast; linarith
  have hhi' : (m : ℚ) < (2 ^ 53 + 1 : ℕ) := by push_cast; linarith
  exact ⟨Nat.lt_succ_iff.1 (by exact_mod_cast hlo'), Nat.lt_succ_iff.1 (by exact_mod_cast hhi')⟩

/-- The magnitude bits of a quotient in the normal range: the biased exponent below it by one, and the significand. -/
theorem roundMagnitude64_of_normal {n d : ℕ} (hd : 0 < d) (hv : Normal ((n : ℚ) / d)) :
    ∃ E m : ℕ, roundMagnitude64 n d = E * 2 ^ 52 + m ∧ E < 2045 ∧ 2 ^ 52 ≤ m ∧ m ≤ 2 ^ 53 ∧
      |(m : ℚ) * 2 ^ ((E : ℤ) - 1074) - n / d| ≤ 2 ^ ((E : ℤ) - 1074) / 2 ∧
      2 ^ 52 * 2 ^ ((E : ℤ) - 1074) ≤ (n : ℚ) / d ∧ (n : ℚ) / d < 2 ^ 53 * 2 ^ ((E : ℤ) - 1074) := by
  obtain ⟨hne, helo, hehi⟩ := hv
  have hpos : 0 < (n : ℚ) / d := lt_of_le_of_ne (by positivity) hne.symm
  rw [abs_of_pos hpos] at helo hehi
  have hn : 0 < n := Nat.pos_of_ne_zero fun h => by simp [h] at hpos
  have hlog := floorLog2_eq hn hd
  have hvlo := (Int.zpow_le_iff_le_log one_lt_two hpos).2 le_rfl
  have hvhi := (Int.lt_zpow_iff_log_lt one_lt_two hpos).2 (lt_add_one _)
  generalize Int.log 2 ((n : ℚ) / d) = e at *
  obtain ⟨E, hE⟩ := Int.eq_ofNat_of_zero_le (show 0 ≤ e + 1022 by omega)
  obtain rfl : e = E - 1022 := by omega
  have hpow : (0 : ℚ) < 2 ^ ((E : ℤ) - 1074) := by positivity
  have hunit (k : ℕ) : (2 : ℚ) ^ k * 2 ^ ((E : ℤ) - 1074) = 2 ^ ((E : ℤ) - 1074 + k) := by
    rw [zpow_add₀ two_ne_zero, zpow_natCast, mul_comm]
  have hvlo : 2 ^ 52 * 2 ^ ((E : ℤ) - 1074) ≤ (n : ℚ) / d := by
    rw [hunit, show (E : ℤ) - 1074 + (52 : ℕ) = E - 1022 by omega]
    exact_mod_cast hvlo
  have hvhi : (n : ℚ) / d < 2 ^ 53 * 2 ^ ((E : ℤ) - 1074) := by
    rw [hunit, show (E : ℤ) - 1074 + (53 : ℕ) = E - 1022 + 1 by omega]
    exact_mod_cast hvhi
  have hinv : (2 : ℚ) ^ (52 - ((E : ℤ) - 1022)) = (2 ^ ((E : ℤ) - 1074))⁻¹ := by
    rw [← zpow_neg]
    congr 1
    ring
  have hnear := abs_divNearestEven_sub_le (n * 2 ^ (52 - ((E : ℤ) - 1022)).toNat)
    (Nat.mul_pos hd (Nat.two_pow_pos (-(52 - ((E : ℤ) - 1022))).toNat))
  rw [scaled_div_eq, hinv, ← div_eq_mul_inv] at hnear
  generalize hm : divNearestEven _ _ = m at hnear
  obtain ⟨hmlo, hmhi⟩ := significand_mem hnear ((le_div_iff₀ hpow).2 hvlo) ((div_lt_iff₀ hpow).2 hvhi)
  refine ⟨E, m, ?_, by omega, hmlo, hmhi, ?_, hvlo, hvhi⟩
  · have hmax : max ((E : ℤ) - 1022) (-1022) = E - 1022 := by omega
    simp only [roundMagnitude64, hn.ne', if_false, hlog, hmax, hm, hE, Int.toNat_natCast]
    omega
  · have herror : (m : ℚ) * 2 ^ ((E : ℤ) - 1074) - n / d =
        (m - n / d / 2 ^ ((E : ℤ) - 1074)) * 2 ^ ((E : ℤ) - 1074) := by
      rw [sub_mul, div_mul_cancel₀ _ hpow.ne']
    rw [herror, abs_mul, abs_of_pos hpow]
    nlinarith

/-- Rounding a fraction in the normal range. -/
theorem roundTo64_rounds {q : Frac} (hden : 0 < q.den) (hv : Normal (fracValue q)) :
    Rounds (fracValue q) (value64 (roundTo64 q)) := by
  have hdpos : (0 : ℚ) < q.den := by exact_mod_cast hden
  have habs : |fracValue q| = (q.num.natAbs : ℚ) / q.den := by
    rw [fracValue, abs_div, abs_of_pos hdpos, Nat.cast_natAbs, Int.cast_abs]
  have hnormal : Normal ((q.num.natAbs : ℚ) / q.den) := by
    rw [← habs]
    exact ⟨abs_ne_zero.2 hv.1, by simpa using hv.2⟩
  obtain ⟨E, m, hmag, hE, hlo, hhi, hnear, hvlo, hvhi⟩ := roundMagnitude64_of_normal hden hnormal
  have hvalue := value64_ofNat (decide (q.num < 0)) hE hlo hhi
  have hround : roundTo64 q = BitVec.ofNat 64 (E * 2 ^ 52 + m + if decide (q.num < 0) then 2 ^ 63 else 0) := by
    rw [roundTo64, hmag]
    simp only [decide_eq_true_eq]
  rw [← hround] at hvalue
  have hsign : fracValue q = (if decide (q.num < 0) then -1 else 1) * ((q.num.natAbs : ℚ) / q.den) := by
    rw [Nat.cast_natAbs, fracValue]
    by_cases h : q.num < 0
    · simp [h, abs_of_neg h, neg_div]
    · simp [h, abs_of_nonneg (not_lt.1 h)]
  rw [← habs] at hvlo hvhi
  refine ⟨(if decide (q.num < 0) then -1 else 1) * m, (E : ℤ) - 1074, ?_, ?_, hvlo, hvhi⟩
  · rw [hvalue]
    push_cast
    rfl
  · rw [hvalue, hsign, mul_assoc, ← mul_sub, abs_mul]
    refine le_trans (le_of_eq ?_) hnear
    split <;> simp

end Sys2Proof.Proofs
end

section
/-! PROOFS. Computing in binary64 (log 7): the error of one operation, the demand (41_encoder.md R125), and the ports of
the two scaled quantities (42_decoder.md R162). -/

namespace Sys2Proof.Proofs

open Sys2Proof.Machine Sys2Proof.Safety Sys2Proof.Laws

/-! ## The error of one rounding -/

section
variable {v p : ℚ}

/-- A value with a significand of 53 bits is its own rounding. -/
theorem rounds_exact (h : Rounds v p) {k y : ℤ} (hv : v = k * 2 ^ y) (hk : |k| < 2 ^ 53) : p = v := by
  obtain ⟨m, x, hp, hnear, hlo, -⟩ := h
  have hx : (0 : ℚ) < 2 ^ x := by positivity
  have hy : (0 : ℚ) < 2 ^ y := by positivity
  rcases le_or_gt x y with hxy | hxy
  · obtain ⟨n, hn⟩ := Int.eq_ofNat_of_zero_le (show 0 ≤ y - x by omega)
    obtain rfl : y = x + n := by omega
    have hgrid : v = ((k * 2 ^ n : ℤ) : ℚ) * 2 ^ x := by
      rw [hv, zpow_add₀ two_ne_zero, zpow_natCast]
      push_cast
      ring
    rw [hp, hgrid, ← sub_mul, abs_mul, abs_of_pos hx, ← Int.cast_sub, ← Int.cast_abs] at hnear
    have hlt : ((|m - k * 2 ^ n| : ℤ) : ℚ) < (1 : ℤ) := by push_cast at hnear ⊢; nlinarith
    have hm : m = k * 2 ^ n := sub_eq_zero.1 (Int.abs_lt_one_iff.1 (by exact_mod_cast hlt))
    rw [hp, hgrid, hm]
  · have hk' : |(k : ℚ)| < 2 ^ 53 := by exact_mod_cast hk
    have hstep : (2 : ℚ) ^ (y + 1) ≤ 2 ^ x := zpow_le_zpow_right₀ one_le_two (by omega)
    rw [zpow_add₀ two_ne_zero, zpow_one] at hstep
    rw [hv, abs_mul, abs_of_pos hy] at hlo
    nlinarith

theorem rounds_relative_error (h : Rounds v p) : |p - v| ≤ |v| / 2 ^ 53 := by
  obtain ⟨m, x, -, hnear, hlo, -⟩ := h
  rw [le_div_iff₀ (by positivity)]
  linarith

/-- Below `2 ^ j` the spacing is at most `2 ^ (j - 53)`. -/
theorem rounds_absolute_error (h : Rounds v p) {j : ℤ} (hv : |v| < 2 ^ j) : |p - v| ≤ 2 ^ (j - 54) := by
  obtain ⟨m, x, -, hnear, hlo, -⟩ := h
  have hpow : (2 : ℚ) ^ (52 + x) < 2 ^ j := by
    rw [zpow_add₀ two_ne_zero]
    exact lt_of_le_of_lt (by exact_mod_cast hlo) hv
  have hxj := (zpow_lt_zpow_iff_right₀ (one_lt_two (α := ℚ))).1 hpow
  calc |p - v| ≤ 2 ^ x / 2 := hnear
    _ = 2 ^ (x - 1) := (zpow_sub_one₀ two_ne_zero x).symm
    _ ≤ 2 ^ (j - 54) := zpow_le_zpow_right₀ one_le_two (by omega)

/-- From `2 ^ j` up to `2 ^ (j + 1)` the spacing is `2 ^ (j - 52)`. -/
theorem rounds_on_grid (h : Rounds v p) {j : ℤ} (hlo : 2 ^ j ≤ |v|) (hhi : |v| < 2 ^ (j + 1)) :
    ∃ m : ℤ, p = m * 2 ^ (j - 52) := by
  obtain ⟨m, x, hp, -, hxlo, hxhi⟩ := h
  have h1 : (2 : ℚ) ^ (52 + x) < 2 ^ (j + 1) := by
    rw [zpow_add₀ two_ne_zero]
    exact lt_of_le_of_lt (by exact_mod_cast hxlo) hhi
  have h2 : (2 : ℚ) ^ j < 2 ^ (53 + x) := by
    rw [zpow_add₀ two_ne_zero]
    exact lt_of_le_of_lt hlo (by exact_mod_cast hxhi)
  have h1 := (zpow_lt_zpow_iff_right₀ (one_lt_two (α := ℚ))).1 h1
  have h2 := (zpow_lt_zpow_iff_right₀ (one_lt_two (α := ℚ))).1 h2
  obtain rfl : x = j - 52 := by omega
  exact ⟨m, hp⟩

theorem normal_of_mem (hlo : 2 ^ (-20 : ℤ) ≤ |v|) (hhi : |v| < 2 ^ (20 : ℤ)) : Normal v := by
  have hpos : 0 < |v| := lt_of_lt_of_le (by positivity) hlo
  have h1 := (Int.zpow_le_iff_le_log (x := -20) one_lt_two hpos).1 (by rwa [Nat.cast_ofNat])
  have h2 := (Int.lt_zpow_iff_log_lt (x := 20) one_lt_two hpos).1 (by rwa [Nat.cast_ofNat])
  exact ⟨abs_pos.1 hpos, by omega, by omega⟩

theorem normal_of_pos_mem (hlo : 1 / 1048576 ≤ v) (hhi : v < 1048576) : Normal v := by
  have habs : |v| = v := abs_of_pos (by linarith)
  refine normal_of_mem ?_ ?_ <;> rw [habs] <;> norm_num <;> linarith

end

/-! ## The operations -/

section
variable {a b : BitVec 64}

/-- The exact quotient the division rounds. -/
def fracDiv (x y : Frac) : Frac := ⟨x.num * y.den * y.num.sign, x.den * y.num.natAbs⟩

theorem fdiv_eq (a b : BitVec 64) : fdiv a b = roundTo64 (fracDiv (valueOf64 a) (valueOf64 b)) := rfl

theorem fracDiv_den_pos (hb : value64 b ≠ 0) : 0 < (fracDiv (valueOf64 a) (valueOf64 b)).den := by
  refine Nat.mul_pos (valueOf64_den_pos a) (Int.natAbs_pos.2 fun h => hb ?_)
  simp [value64, fracValue, h]

theorem fracValue_fracDiv (hb : value64 b ≠ 0) :
    fracValue (fracDiv (valueOf64 a) (valueOf64 b)) = value64 a / value64 b := by
  have hx : ((valueOf64 a).den : ℚ) ≠ 0 := by exact_mod_cast (valueOf64_den_pos a).ne'
  have hy : ((valueOf64 b).num : ℚ) ≠ 0 := fun h => hb (by rw [value64, fracValue, h, zero_div])
  have hsign : ((valueOf64 b).num.sign : ℚ) * (valueOf64 b).num = (valueOf64 b).num.natAbs := by
    rw [Nat.cast_natAbs]
    exact_mod_cast Int.sign_mul_self_eq_abs _
  have habs : ((valueOf64 b).num.natAbs : ℚ) ≠ 0 :=
    Nat.cast_ne_zero.2 (Int.natAbs_ne_zero.2 (by exact_mod_cast hy))
  simp only [value64, fracValue, fracDiv, Int.cast_mul, Nat.cast_mul, Int.cast_natCast]
  rw [div_div_div_eq, div_eq_div_iff (mul_ne_zero hx habs) (mul_ne_zero hx hy), ← hsign]
  ring

theorem fdiv_rounds (hv : Normal (value64 a / value64 b)) : Rounds (value64 a / value64 b) (value64 (fdiv a b)) := by
  have hb : value64 b ≠ 0 := fun h => hv.1 (by rw [h, div_zero])
  have hvalue := fracValue_fracDiv (a := a) hb
  rw [← hvalue] at hv ⊢
  exact roundTo64_rounds (fracDiv_den_pos hb) hv

theorem fmul_rounds (hv : Normal (value64 a * value64 b)) : Rounds (value64 a * value64 b) (value64 (fmul a b)) := by
  have hvalue : fracValue ⟨(valueOf64 a).num * (valueOf64 b).num, (valueOf64 a).den * (valueOf64 b).den⟩ =
      value64 a * value64 b := by
    simp only [value64, fracValue]
    push_cast
    exact mul_div_mul_comm _ _ _ _
  rw [← hvalue] at hv ⊢
  exact roundTo64_rounds (Nat.mul_pos (valueOf64_den_pos a) (valueOf64_den_pos b)) hv

theorem fsub_rounds (hv : Normal (value64 a - value64 b)) : Rounds (value64 a - value64 b) (value64 (fsub a b)) := by
  have ha : ((valueOf64 a).den : ℚ) ≠ 0 := by exact_mod_cast (valueOf64_den_pos a).ne'
  have hb : ((valueOf64 b).den : ℚ) ≠ 0 := by exact_mod_cast (valueOf64_den_pos b).ne'
  have hvalue : fracValue ⟨(valueOf64 a).num * (valueOf64 b).den - (valueOf64 b).num * (valueOf64 a).den,
      (valueOf64 a).den * (valueOf64 b).den⟩ = value64 a - value64 b := by
    simp only [value64, fracValue]
    push_cast
    rw [div_sub_div _ _ ha hb, mul_comm ((valueOf64 a).den : ℚ) (valueOf64 b).num]
  rw [← hvalue] at hv ⊢
  exact roundTo64_rounds (Nat.mul_pos (valueOf64_den_pos a) (valueOf64_den_pos b)) hv

end

/-- A small natural number is its own binary64. -/
theorem value64_natCast {n : ℕ} (hn : n < 2 ^ 20) : value64 (roundTo64 ⟨n, 1⟩) = n := by
  have hvalue : fracValue ⟨n, 1⟩ = n := by simp [fracValue]
  rcases Nat.eq_zero_or_pos n with rfl | hpos
  · have hzero : valueOf64 (roundTo64 ⟨(0 : ℕ), 1⟩) = ⟨0, 2 ^ 1074⟩ := by decide +kernel
    rw [value64, hzero, fracValue, Int.cast_zero, zero_div, Nat.cast_zero]
  · have hn' : (n : ℚ) < 2 ^ 20 := by exact_mod_cast hn
    have hpos' : (1 : ℚ) ≤ n := by exact_mod_cast hpos
    have hnormal : Normal (n : ℚ) := normal_of_pos_mem (by linarith) (by linarith)
    have hround := roundTo64_rounds (q := ⟨n, 1⟩) Nat.one_pos (by rwa [hvalue])
    rw [hvalue] at hround
    refine rounds_exact hround (k := n) (y := 0) (by simp) ?_
    rw [Nat.abs_cast]
    omega

/-! ## The demand (41_encoder.md R125) -/

/-- A demand that is no integer before the floor is at least `1 / 175` away from one. -/
theorem demand_between {c : ℕ} (hc : ¬175 ∣ c) :
    (demand c : ℚ) + 1 / 175 ≤ c / 2800 * 65536 ∧ (c : ℚ) / 2800 * 65536 ≤ demand c + 174 / 175 := by
  have hnat : demand c * 175 + 1 ≤ c * 4096 ∧ c * 4096 ≤ demand c * 175 + 174 := by
    rw [demand_eq]
    omega
  obtain ⟨h1, h2⟩ := hnat
  have h1 : (demand c * 175 + 1 : ℚ) ≤ c * 4096 := by exact_mod_cast h1
  have h2 : (c * 4096 : ℚ) ≤ demand c * 175 + 174 := by exact_mod_cast h2
  constructor <;> linarith

/-- The quotient of an rpm from 1 to 2200. -/
theorem demandQuotient_rounds {c : ℕ} (hpos : 0 < c) (hc : c ≤ 2200) :
    Rounds ((c : ℚ) / 2800) (value64 (fdiv (roundTo64 ⟨c, 1⟩) (roundTo64 ⟨2800, 1⟩))) := by
  have hrpm := value64_natCast (n := c) (by omega)
  have hdivisor : value64 (roundTo64 ⟨2800, 1⟩) = 2800 := by exact_mod_cast value64_natCast (n := 2800) (by norm_num)
  have hc0 : (1 : ℚ) ≤ c := by exact_mod_cast hpos
  have hc1 : (c : ℚ) ≤ 2200 := by exact_mod_cast hc
  rw [← hrpm, ← hdivisor]
  refine fdiv_rounds ?_
  rw [hrpm, hdivisor]
  exact normal_of_pos_mem (by linarith) (by linarith)

/-- The product of such a quotient. -/
theorem demandProduct_rounds {c : ℕ} (hpos : 0 < c) (hc : c ≤ 2200) {q : BitVec 64}
    (hquot : Rounds ((c : ℚ) / 2800) (value64 q)) :
    Rounds (value64 q * 65536) (value64 (fmul q (roundTo64 ⟨65536, 1⟩))) := by
  have hc0 : (1 : ℚ) ≤ c := by exact_mod_cast hpos
  have hc1 : (c : ℚ) ≤ 2200 := by exact_mod_cast hc
  have hq := abs_le.1 (rounds_relative_error hquot)
  rw [abs_of_nonneg (by positivity : (0 : ℚ) ≤ (c : ℚ) / 2800)] at hq
  have hscale : value64 (roundTo64 ⟨65536, 1⟩) = 65536 := by exact_mod_cast value64_natCast (n := 65536) (by norm_num)
  rw [← hscale]
  refine fmul_rounds ?_
  rw [hscale]
  exact normal_of_pos_mem (by linarith) (by linarith)

section
variable {c : ℕ} {q p : ℚ}

/-- For a multiple of 175 the quotient is a number of sixteenths, so both roundings are exact. -/
theorem floor_demand_of_dvd (hc : c ≤ 2200) (h175 : 175 ∣ c) (hquot : Rounds ((c : ℚ) / 2800) q)
    (hprod : Rounds (q * 65536) p) : ⌊p⌋ = (demand c : ℤ) := by
  obtain ⟨n, rfl⟩ := h175
  have hexact := rounds_exact hquot (k := n) (y := -4) (by push_cast; norm_num; ring) (by rw [Nat.abs_cast]; omega)
  have hexact' := rounds_exact hprod (k := 4096 * n) (y := 0) (by rw [hexact]; push_cast; ring)
    (by rw [abs_of_nonneg (by omega)]; omega)
  have hvalue : q * 65536 = ((4096 * n : ℕ) : ℤ) := by rw [hexact]; push_cast; ring
  rw [hexact', hvalue, Int.floor_intCast, demand_eq]
  omega

/-- For any other rpm the error of both roundings is far below `1 / 175`. -/
theorem floor_demand_of_not_dvd (hc : c ≤ 2200) (h175 : ¬175 ∣ c) (hquot : Rounds ((c : ℚ) / 2800) q)
    (hprod : Rounds (q * 65536) p) : ⌊p⌋ = (demand c : ℤ) := by
  have hc0 : (0 : ℚ) ≤ c := Nat.cast_nonneg c
  have hc1 : (c : ℚ) ≤ 2200 := by exact_mod_cast hc
  obtain ⟨hlo, hhi⟩ := demand_between h175
  have hq := abs_le.1 (rounds_relative_error hquot)
  rw [abs_of_nonneg (by positivity : (0 : ℚ) ≤ (c : ℚ) / 2800)] at hq
  have hp := abs_le.1 (rounds_relative_error hprod)
  rw [abs_of_nonneg (by linarith : 0 ≤ q * 65536)] at hp
  rw [Int.floor_eq_iff]
  push_cast
  constructor <;> linarith

end

/-- Settles O24: two roundings, exact for the multiples of 175 and far from an integer otherwise; an rpm of 0 gives +0. -/
theorem demandInBinary64IsTheSame : Obligations.DemandInBinary64IsTheSame := by
  intro c hc
  rcases Nat.eq_zero_or_pos c with rfl | hpos
  · have hzero : valueOf64 (fmul (fdiv (roundTo64 ⟨(0 : ℕ), 1⟩) (roundTo64 ⟨2800, 1⟩)) (roundTo64 ⟨65536, 1⟩)) =
        ⟨0, 2 ^ 1074⟩ := by decide +kernel
    rw [hzero, fracValue, Int.cast_zero, zero_div, Int.floor_zero]
    rfl
  · have hquot := demandQuotient_rounds hpos hc
    have hprod := demandProduct_rounds hpos hc hquot
    by_cases h175 : 175 ∣ c
    · exact floor_demand_of_dvd hc h175 hquot hprod
    · exact floor_demand_of_not_dvd hc h175 hquot hprod

/-! ## The current port (42_decoder.md R162) -/

theorem value64_f64 (raw : BitVec 10) : value64 (f64 raw) = raw.toNat :=
  value64_natCast (by have := raw.isLt; omega)

/-- The current's one division rounds the exact fraction. -/
theorem cur64Binary_eq (raw : BitVec 10) : cur64Binary raw = roundTo64 (amps raw) := by
  have hdivisor : value64 (roundTo64 ⟨59, 1⟩) = 59 := by exact_mod_cast value64_natCast (n := 59) (by norm_num)
  have hne : value64 (roundTo64 ⟨59, 1⟩) ≠ 0 := by rw [hdivisor]; norm_num
  rw [cur64Binary, fdiv_eq]
  refine roundTo64_congr (fracDiv_den_pos hne) (by simp) ?_
  rw [fracValue_fracDiv hne, hdivisor, value64_f64, fracValue_amps]

/-- No pattern has a value nearer to the current than its rounding. -/
theorem roundTo64_amps_nearest (raw : BitVec 10) (b : BitVec 64) :
    |fracValue (valueOf64 (roundTo64 (amps raw))) - (raw.toNat : ℚ) / 59| ≤
      |fracValue (valueOf64 b) - (raw.toNat : ℚ) / 59| := by
  rcases Nat.eq_zero_or_pos raw.toNat with hzero | hpos
  · have hvalue : valueOf64 (roundTo64 ⟨(0 : ℕ), 59⟩) = ⟨0, 2 ^ 1074⟩ := by decide +kernel
    have hamps : amps raw = ⟨(0 : ℕ), 59⟩ := by rw [amps, hzero]; rfl
    rw [hamps, hvalue, hzero, fracValue, Int.cast_zero, zero_div, Nat.cast_zero, zero_div, sub_zero, abs_zero]
    exact abs_nonneg _
  · have h0 : (1 : ℚ) ≤ raw.toNat := by exact_mod_cast hpos
    have h1 := toNat_raw_le raw
    have hround := roundTo64_rounds (q := amps raw) (by simp) <| by
      rw [fracValue_amps]
      exact normal_of_pos_mem (by linarith) (by linarith)
    rw [fracValue_amps] at hround
    obtain ⟨m, x, hp, hnear, hlo, -⟩ := hround
    rw [abs_of_nonneg (by positivity)] at hlo
    exact nearest_binary64 hp hnear hlo b

/-! ## The temperature port (42_decoder.md R162) -/

/-- The value of the binary64 of 146.9 / 200. -/
def tmpGain : ℚ := 0x17810624DD2F1B / 2 ^ 53

/-- The value of the binary64 of 245.8415. -/
def tmpOffset : ℚ := 0x1EBAED916872B0 / 2 ^ 45

theorem value64_tmpGain : value64 (fdiv (roundTo64 ⟨1469, 10⟩) (roundTo64 ⟨200, 1⟩)) = tmpGain := by
  have hvalue : valueOf64 (fdiv (roundTo64 ⟨1469, 10⟩) (roundTo64 ⟨200, 1⟩)) = ⟨0x17810624DD2F1B, 2 ^ 53⟩ := by
    decide +kernel
  rw [value64, hvalue, fracValue, tmpGain]
  norm_num

theorem value64_tmpOffset : value64 (roundTo64 ⟨2458415, 10000⟩) = tmpOffset := by
  have hvalue : valueOf64 (roundTo64 ⟨2458415, 10000⟩) = ⟨0x1EBAED916872B0, 2 ^ 45⟩ := by decide +kernel
  rw [value64, hvalue, fracValue, tmpOffset]
  norm_num

theorem tmpProduct_nonneg (raw : BitVec 10) : 0 ≤ tmpGain * raw.toNat := by
  rw [tmpGain]
  positivity

/-- The product of the gain and a raw value. -/
theorem tmpProduct_rounds {raw : BitVec 10} (hpos : 0 < raw.toNat) :
    Rounds (tmpGain * raw.toNat)
      (value64 (fmul (fdiv (roundTo64 ⟨1469, 10⟩) (roundTo64 ⟨200, 1⟩)) (f64 raw))) := by
  have h0 : (1 : ℚ) ≤ raw.toNat := by exact_mod_cast hpos
  have h1 := toNat_raw_le raw
  rw [← value64_tmpGain, ← value64_f64]
  refine fmul_rounds ?_
  rw [value64_tmpGain, value64_f64, tmpGain]
  exact normal_of_pos_mem (by linarith) (by linarith)

section
variable {raw : BitVec 10} {c t : ℚ}

theorem tmpProduct_error {j : ℤ} (hprod : Rounds (tmpGain * raw.toNat) c) (hj : tmpGain * raw.toNat < 2 ^ j) :
    |c - tmpGain * raw.toNat| ≤ 2 ^ (j - 54) :=
  rounds_absolute_error hprod (by rwa [abs_of_nonneg (tmpProduct_nonneg raw)])

theorem tmpProduct_lt (raw : BitVec 10) : tmpGain * raw.toNat < 2 ^ (10 : ℤ) := by
  have h1 := toNat_raw_le raw
  norm_num [tmpGain]
  linarith

/-- The difference the subtraction rounds is neither near 0 nor above 512. -/
theorem tmpDifference_mem (hprod : Rounds (tmpGain * raw.toNat) c) :
    2 ^ (-20 : ℤ) ≤ |c - tmpOffset| ∧ |c - tmpOffset| < 2 ^ (9 : ℤ) := by
  have h0 : (0 : ℚ) ≤ raw.toNat := Nat.cast_nonneg _
  have h1 := toNat_raw_le raw
  have herror := abs_le.1 (tmpProduct_error hprod (tmpProduct_lt raw))
  norm_num [tmpGain, tmpOffset] at herror ⊢
  constructor
  · rcases Nat.lt_or_ge raw.toNat 335 with h | h
    · have h : (raw.toNat : ℚ) ≤ 334 := by exact_mod_cast Nat.le_of_lt_succ h
      exact le_abs.2 (.inr (by linarith))
    · have h : (335 : ℚ) ≤ raw.toNat := by exact_mod_cast h
      exact le_abs.2 (.inl (by linarith))
  · rw [abs_lt]
    constructor <;> linarith

/-- Below 512 the errors of the two roundings and of the two constants add up to less than the bound. -/
theorem tmp_error_of_low (hraw : raw.toNat < 698) (hprod : Rounds (tmpGain * raw.toNat) c)
    (hdiff : Rounds (c - tmpOffset) t) : |t - fracValue (celsius raw)| ≤ 1.01e-13 := by
  have h0 : (0 : ℚ) ≤ raw.toNat := Nat.cast_nonneg _
  have h1 : (raw.toNat : ℚ) ≤ 697 := by exact_mod_cast Nat.le_of_lt_succ hraw
  have hprod' := abs_le.1 (tmpProduct_error hprod (j := 9) (by norm_num [tmpGain]; linarith))
  have hdiff' := abs_le.1 (rounds_absolute_error hdiff (tmpDifference_mem hprod).2)
  norm_num [tmpGain, tmpOffset] at hprod' hdiff'
  rw [fracValue_celsius, abs_le]
  constructor <;> norm_num <;> linarith

/-- The error from 512 up, in units of `2 ^ -53 / 10000`: for the largest raw values the bound holds only because of
what the product's rounding is, raw value by raw value. -/
theorem tmp_error_units {m R : ℤ} (hlo : 698 ≤ R) (hhi : R ≤ 1023)
    (hround : |1024 * m - 0x17810624DD2F1B * R| ≤ 512) :
    |10240000 * m - 2560000 * 0x1EBAED916872B0 - (7345 * R - 2458415) * 2 ^ 53| ≤ 9097271 := by
  rw [abs_le] at *
  rcases le_or_gt R 971 with h | h
  · omega
  · interval_cases R <;> omega

/-- From 512 up the product has a spacing of `2 ^ -43`, of which the offset is a multiple, so the subtraction is exact. -/
theorem tmp_error_of_high (hraw : 698 ≤ raw.toNat) (hprod : Rounds (tmpGain * raw.toNat) c)
    (hdiff : Rounds (c - tmpOffset) t) : |t - fracValue (celsius raw)| ≤ 1.01e-13 := by
  have h0 : (698 : ℚ) ≤ raw.toNat := by exact_mod_cast hraw
  have habs := abs_of_nonneg (tmpProduct_nonneg raw)
  have herror := tmpProduct_error hprod (tmpProduct_lt raw)
  have hmem := (tmpDifference_mem hprod).2
  obtain ⟨m, rfl⟩ := rounds_on_grid hprod (j := 9) (by rw [habs]; norm_num [tmpGain]; linarith)
    (by rw [habs]; exact tmpProduct_lt raw)
  have hround : |1024 * m - 0x17810624DD2F1B * (raw.toNat : ℤ)| ≤ 512 := by
    rw [abs_le] at herror
    norm_num [tmpGain] at herror
    have hle : |1024 * m - 0x17810624DD2F1B * (raw.toNat : ℚ)| ≤ 512 := by
      rw [abs_le]
      constructor <;> linarith
    exact_mod_cast hle
  have hsignificand : |m - 0x7AEBB645A1CAC| < 2 ^ 53 := by
    rw [abs_lt] at hmem
    norm_num [tmpOffset] at hmem
    have hlt : |(m : ℚ) - 0x7AEBB645A1CAC| < 2 ^ 53 := by
      rw [abs_lt]
      constructor <;> linarith
    exact_mod_cast hlt
  have hexact := rounds_exact hdiff (y := -43) (by rw [tmpOffset]; push_cast; norm_num; ring) hsignificand
  have hunits : |10240000 * (m : ℚ) - 2560000 * 0x1EBAED916872B0 - (7345 * raw.toNat - 2458415) * 2 ^ 53| ≤ 9097271 := by
    exact_mod_cast tmp_error_units (by exact_mod_cast hraw) (by have := raw.isLt; omega) hround
  rw [abs_le] at hunits
  rw [hexact, fracValue_celsius, abs_le]
  constructor <;> norm_num [tmpOffset] <;> linarith

end

theorem tmp64Binary_rounds {raw : BitVec 10} (hpos : 0 < raw.toNat) :
    Rounds (value64 (fmul (fdiv (roundTo64 ⟨1469, 10⟩) (roundTo64 ⟨200, 1⟩)) (f64 raw)) - tmpOffset)
      (value64 (tmp64Binary raw)) := by
  obtain ⟨hlo, hhi⟩ := tmpDifference_mem (tmpProduct_rounds hpos)
  rw [tmp64Binary]
  generalize fmul (fdiv (roundTo64 ⟨1469, 10⟩) (roundTo64 ⟨200, 1⟩)) (f64 raw) = a at hlo hhi ⊢
  rw [← value64_tmpOffset] at hlo hhi ⊢
  exact fsub_rounds (normal_of_mem hlo (hhi.trans (by norm_num)))

/-- The temperature's roundings leave it within 1.01e-13 of the exact value; a raw value of 0 gives minus the offset. -/
theorem tmp64Binary_error (raw : BitVec 10) : |value64 (tmp64Binary raw) - fracValue (celsius raw)| ≤ 1.01e-13 := by
  rcases Nat.eq_zero_or_pos raw.toNat with hzero | hpos
  · obtain rfl : raw = 0#10 := BitVec.eq_of_toNat_eq hzero
    have hvalue : valueOf64 (tmp64Binary 0#10) = ⟨-0x1EBAED916872B0, 2 ^ 45⟩ := by decide +kernel
    rw [fracValue_celsius, value64, hvalue, fracValue, abs_le]
    constructor <;> norm_num
  · rcases Nat.lt_or_ge raw.toNat 698 with hraw | hraw
    · exact tmp_error_of_low hraw (tmpProduct_rounds hpos) (tmp64Binary_rounds hpos)
    · exact tmp_error_of_high hraw (tmpProduct_rounds hpos) (tmp64Binary_rounds hpos)

/-- Settles O36: the current is one rounding of the exact fraction, the temperature three. -/
theorem scaledPortsAreClose : Obligations.ScaledPortsAreClose := by
  intro s h
  obtain ⟨r, -, hexec⟩ := exec_decode_tel_of_long h
  have hamps : (telRegsOf decidedConfig r).currentAmps = roundTo64 (amps r.curRaw) := cur64Binary_eq r.curRaw
  have hcelsius : (telRegsOf decidedConfig r).temperatureC = tmp64Binary r.tmpRaw := rfl
  refine ⟨_, hexec, hamps, fun b _ => ?_, ?_⟩
  · rw [respond_tel, writeTelemetry_tel, hamps]
    exact roundTo64_amps_nearest r.curRaw b
  · rw [respond_tel, writeTelemetry_tel, hcelsius]
    exact tmp64Binary_error r.tmpRaw

end Sys2Proof.Proofs
end
